-- ==== Sys2Proof/Word.lean ====
section
/-! DEFINITION. The word types of the block: bytes, 16-bit operands, 32-bit words (spec/00_scope.md R10, R12). -/

namespace Sys2Proof

/-- A byte (R11: "A byte is 8 bits"). -/
abbrev Byte := BitVec 8

/-- A 16-bit operand or window register (R10: `COORD_BITS = 16`). -/
abbrev Half := BitVec 16

/-- A 32-bit word: a descriptor word, a source address or length (R10: `SRC_ADDR_BITS = 32`). -/
abbrev Word := BitVec 32

end Sys2Proof
end

