-- ==== Sys2Proof/Config.lean ====
section
/-! DEFINITION. The configuration of the block: the geometry and the parameters the spec leaves open
(spec/00_scope.md R8, R9), and the FREE VALUES of the model, constants without a body that nothing in Lean can evaluate. -/

namespace Sys2Proof

/-- The answer of the transport to one transaction (R7(d), R207): free input of the step that asks. -/
inductive BusResult where
  | ok
  | fail
  deriving DecidableEq, Repr, Inhabited

/-- The two waveform modes (spec/00_scope.md, glossary). -/
inductive Mode where
  | mode1
  | mode2
  deriving DecidableEq, Repr, Inhabited

/-- The thirteen command bytes of R9, pairwise distinct as R9 requires ("must be pairwise distinct").
The default values are the non-normative binding G2 of spec/93_implementation_defined.md (PRESUMED, log 1): they only show that the
type has a member; no definition of the machine reads them. -/
structure CommandBytes where
  swReset          : Byte := 0x12
  outputScan       : Byte := 0x01
  dataEntryMode    : Byte := 0x11
  setXWindow       : Byte := 0x44
  setYWindow       : Byte := 0x45
  setXPointer      : Byte := 0x4E
  setYPointer      : Byte := 0x4F
  border           : Byte := 0x3C
  tempSource       : Byte := 0x18
  writeLut         : Byte := 0x32
  updateCtrl       : Byte := 0x22
  masterActivation : Byte := 0x20
  writeRam         : Byte := 0x24
  distinct : [swReset, outputScan, dataEntryMode, setXWindow, setYWindow, setXPointer, setYPointer,
    border, tempSource, writeLut, updateCtrl, masterActivation, writeRam].Nodup := by decide
  deriving DecidableEq, Repr, Inhabited

/-- The payloads and durations of R9. The default values are those of G2, as for `CommandBytes`; the tables and the
durations, for which G2 suggests nothing, default to the empty list and 0. -/
structure Payloads where
  outputScanData     : List Byte := [0xC7, 0x00, 0x00]
  dataEntryModeValue : Byte := 0x03
  borderDataWhite    : Byte := 0x01
  borderDataBlack    : Byte := 0x00
  initBorderWhite    : Bool := true
  tempSourceValue    : Byte := 0x80
  lutMode1           : List Byte := []
  lutMode2           : List Byte := []
  updEnableMode1     : Byte := 0xC0
  updEnableMode2     : Byte := 0xC0
  updRefreshMode1    : Byte := 0xC7
  updRefreshMode2    : Byte := 0xCF
  /-- `T_SETTLE`, in an unnamed unit: it labels a `Delay` event, no rule depends on it (R234). -/
  tSettle            : Nat := 0
  /-- `T_POLL`, as `tSettle`. -/
  tPoll              : Nat := 0
  deriving DecidableEq, Repr, Inhabited

/-- The configuration a block is built with (R8, R9). Its proof fields are the configuration constraints of R8 and R9:
"A configuration that violates a constraint is not a block: the model refuses to build it." -/
structure Config where
  /-- `FB_W`, framebuffer width in pixels. -/
  fbW    : Nat
  /-- `FB_H`, framebuffer height in rows. -/
  fbH    : Nat
  /-- `PANEL_W`. -/
  panelW : Nat
  /-- `PANEL_H`. -/
  panelH : Nat
  /-- `BUSY_TIMEOUT_POLLS`: `none` is the baseline, unbounded wait. -/
  busyTimeoutPolls : Option Nat
  cmd : CommandBytes
  pay : Payloads
  fbW_aligned    : fbW % 8 = 0
  fbW_le         : fbW ≤ 2048
  fbH_le         : fbH ≤ 65536
  panelW_aligned : panelW % 8 = 0
  panelW_ge      : 8 ≤ panelW
  panelW_le      : panelW ≤ 2048
  panelH_ge      : 1 ≤ panelH
  panelH_le      : panelH ≤ 65536
  polls_pos      : busyTimeoutPolls ≠ some 0
  deriving DecidableEq, Repr

/-- `FB_STRIDE = FB_W / 8` bytes (R8). -/
def Config.fbStride (c : Config) : Nat := c.fbW / 8

/-- `FB_SIZE = FB_H * FB_STRIDE` bytes (R8). -/
def Config.fbSize (c : Config) : Nat := c.fbH * c.fbStride

/-- Bytes of a whole-panel image: `PANEL_H * (PANEL_W/8)` (R103). -/
def Config.panelBytes (c : Config) : Nat := c.panelH * (c.panelW / 8)

/-- The command bytes of the block at hand: R9 gives no value (log 1). -/
opaque Config.openCommands : CommandBytes

/-- The payloads and durations of the block at hand: R9 gives no value (log 1). -/
opaque Config.openPayloads : Payloads

/-- The configuration State.reset has: the default geometry of R8 (the panel's, 200 by 200), the baseline wait of R9 and
R3, and every open parameter a constant about which nothing is known. -/
def Config.platform : Config where
  fbW := 200
  fbH := 200
  panelW := 200
  panelH := 200
  busyTimeoutPolls := none
  cmd := Config.openCommands
  pay := Config.openPayloads
  fbW_aligned := by decide
  fbW_le := by decide
  fbH_le := by decide
  panelW_aligned := by decide
  panelW_ge := by decide
  panelW_le := by decide
  panelH_ge := by decide
  panelH_le := by decide
  polls_pos := by decide

/-- The registers whose value after block reset R38 calls unspecified. -/
structure ResetDraw where
  opc : Byte
  f   : Bool
  a0  : Half
  a1  : Half
  a2  : Half
  a3  : Half
  srcBase : Word
  srcLen  : Word
  mode : Mode
  borderWhite : Bool
  awXStart : Half
  awXEnd   : Half
  awYStart : Half
  awYEnd   : Half
  deriving DecidableEq, Repr, Inhabited

/-- FREE VALUE: the registers R38 calls unspecified, after the n-th block reset ("it must not pick 0"; log 6). -/
opaque Config.freeAtReset : Nat → ResetDraw

/-- FREE VALUE: the byte of `FB_MEM` at an address nothing has written since the n-th block reset (R38, U3; log 5).
Arguments: reset number, address. -/
opaque Config.freeFbByte : Nat → Nat → Byte

/-- FREE VALUE: the byte of the host's memory at an address the model's `src` does not list (R62; log 8). -/
opaque Config.freeSrcByte : Nat → Byte

/-- FREE VALUE: the transport's answer to a transaction no listed answer covers, by draw number (R7(d); log 3). -/
opaque Config.freeBusResult : Nat → BusResult

/-- FREE VALUE: the busy level at a sample no listed level covers, by draw number; true is asserted (R7(d); log 3). -/
opaque Config.freeBusy : Nat → Bool

/-- FREE VALUE: what the host reads of a register field whose valid bit is 0 (U4), by register number and draw number
(log 7). -/
opaque Config.freeInvalidRead : Nat → Nat → Word

end Sys2Proof
end

