-- ==== Sys2Proof/Syntax.lean ====
section
/-! DEFINITION. The operations of the block as syntax, and the descriptor that encodes one
(spec/30_encoding.md R90, R91, R96). -/

namespace Sys2Proof

/-- The descriptor D160: five 32-bit words (R90, R91). -/
structure Descriptor where
  w0 : Word
  w1 : Word
  w2 : Word
  w3 : Word
  w4 : Word
  deriving DecidableEq, Repr, Inhabited

/-- The rectangle of CLEAR_REGION and BLIT, in pixels (R92; spec/00_scope.md glossary). Operands are read as
mathematical integers (R11). -/
structure Rect where
  left   : Int
  top    : Int
  width  : Int
  height : Int
  deriving DecidableEq, Repr, Inhabited

/-- The ten operations: one constructor per row of spec/opcode_table.json (R96). -/
inductive Instr where
  /-- CLEAR_ALL. -/
  | clearAll
  /-- CLEAR_REGION left, top, width, height. -/
  | clearRegion (r : Rect)
  /-- BLIT src_base, src_len, left, top, width, height. -/
  | blit (srcBase srcLen : Nat) (r : Rect)
  /-- INITIALIZE. -/
  | init
  /-- SET_ADDRESS_WINDOW x_start, x_end, y_start, y_end. -/
  | setAddressWindow (xStart xEnd yStart yEnd : Int)
  /-- ENABLE_MODE mode. -/
  | enableMode (m : Mode)
  /-- TRANSFER. -/
  | transfer
  /-- REFRESH. -/
  | refresh
  /-- SET_BORDER colour, true for white. -/
  | setBorder (white : Bool)
  /-- CLEAR_DISPLAY. -/
  | clearDisplay
  deriving DecidableEq, Repr

end Sys2Proof
end

