-- ==== Sys2Proof/WellFormed.lean ====
section
/-! DEFINITION. Which terms are operations the descriptor can carry: every operand within its field's range
(spec/30_encoding.md R104: -32768..32767 for the 16-bit operands, 0..2^32-1 for `src_base` and `src_len`). -/

namespace Sys2Proof

/-- A 16-bit two's complement operand (R92, R104). -/
def coordInRange (x : Int) : Bool := decide (-32768 ≤ x ∧ x ≤ 32767)

/-- A 32-bit unsigned operand (R92, R104). -/
def addrInRange (n : Nat) : Bool := decide (n < 2 ^ 32)

/-- All four operands of a rectangle in range. -/
def Rect.wellFormed (r : Rect) : Bool :=
  coordInRange r.left && coordInRange r.top && coordInRange r.width && coordInRange r.height

/-- "in-range operands" of R105. -/
def Instr.wellFormed : Instr → Bool
  | .clearAll => true
  | .clearRegion r => r.wellFormed
  | .blit base len r => addrInRange base && addrInRange len && r.wellFormed
  | .init => true
  | .setAddressWindow xs xe ys ye =>
    coordInRange xs && coordInRange xe && coordInRange ys && coordInRange ye
  | .enableMode _ => true
  | .transfer => true
  | .refresh => true
  | .setBorder _ => true
  | .clearDisplay => true

end Sys2Proof
end

