-- ==== Sys2Proof/Decode.lean ====
section
/-! DEFINITION. Decoding a descriptor, total and rejecting by name (spec/30_encoding.md R90 to R100), and after it the
encoder (R105), the memory image (R93), the opcode table (R96), and the assembler's textual form (R104). -/

namespace Sys2Proof

/-- Why a descriptor is illegal: the length of R90, or one of the three conditions of R98. -/
inductive IllegalReason where
  /-- The image is not 20 bytes (R90: "exactly 160 bits"). -/
  | wrongLength
  /-- `W0[31:9] != 0`. -/
  | reservedBitsSet
  /-- `OPC` is none of the ten. -/
  | unknownOpcode
  /-- `F = 1` with an operation that does not use it. -/
  | flagNotUsed
  deriving DecidableEq, Repr

/-- What a descriptor stands for. -/
inductive Decoded where
  | op (i : Instr)
  | illegal (why : IllegalReason)
  deriving DecidableEq, Repr

/-! ### The fields of D160 (R91) -/

/-- `OPC = W0[7:0]`. -/
def Descriptor.opc (d : Descriptor) : Byte := d.w0.extractLsb' 0 8

/-- `F = W0[8]`. -/
def Descriptor.flag (d : Descriptor) : Bool := d.w0.getLsbD 8

/-- `W0[31:9]`, reserved, must be 0. -/
def Descriptor.reserved (d : Descriptor) : BitVec 23 := d.w0.extractLsb' 9 23

/-- `A0 = W1[15:0]`. -/
def Descriptor.a0 (d : Descriptor) : Half := d.w1.extractLsb' 0 16

/-- `A1 = W1[31:16]`. -/
def Descriptor.a1 (d : Descriptor) : Half := d.w1.extractLsb' 16 16

/-- `A2 = W2[15:0]`. -/
def Descriptor.a2 (d : Descriptor) : Half := d.w2.extractLsb' 0 16

/-- `A3 = W2[31:16]`. -/
def Descriptor.a3 (d : Descriptor) : Half := d.w2.extractLsb' 16 16

/-- The five words from their fields, the reserved bits 0 (R91). -/
def Descriptor.pack (opc : Byte) (f : Bool) (a0 a1 a2 a3 : Half) (srcBase srcLen : Word) : Descriptor where
  w0 := opc.setWidth 32 ||| (BitVec.ofBool f).setWidth 32 <<< 8
  w1 := a0.setWidth 32 ||| a1.setWidth 32 <<< 16
  w2 := a2.setWidth 32 ||| a3.setWidth 32 <<< 16
  w3 := srcBase
  w4 := srcLen

/-! ### Operand assembly (R92): no scaling, no shifting -/

/-- The rectangle of CLEAR_REGION and BLIT: four 16-bit fields read as two's complement. -/
def Descriptor.rect (d : Descriptor) : Rect where
  left   := d.a0.toInt
  top    := d.a1.toInt
  width  := d.a2.toInt
  height := d.a3.toInt

/-- `Mode1 if F = 0 else Mode2`. -/
def modeOfFlag (f : Bool) : Mode := if f then .mode2 else .mode1

/-- Inverse of `modeOfFlag` (R104: `MODE1` assembles to `F = 0`, `MODE2` to `F = 1`). -/
def flagOfMode : Mode → Bool
  | .mode1 => false
  | .mode2 => true

/-! ### Decoding (R95, R96, R98) -/

/-- An operation that does not use `F`: there `F` must be 0 (R97). -/
def withoutFlag (d : Descriptor) (i : Instr) : Decoded :=
  if d.flag then .illegal .flagNotUsed else .op i

/-- The operation a descriptor selects. `W1` to `W4` only supply operands (R95). -/
def decode (d : Descriptor) : Decoded :=
  if d.reserved ≠ 0#23 then .illegal .reservedBitsSet
  else if d.opc = 0x01#8 then withoutFlag d .clearAll
  else if d.opc = 0x02#8 then withoutFlag d (.clearRegion d.rect)
  else if d.opc = 0x03#8 then withoutFlag d (.blit d.w3.toNat d.w4.toNat d.rect)
  else if d.opc = 0x10#8 then withoutFlag d .init
  else if d.opc = 0x11#8 then
    withoutFlag d (.setAddressWindow d.a0.toInt d.a1.toInt d.a2.toInt d.a3.toInt)
  else if d.opc = 0x12#8 then .op (.enableMode (modeOfFlag d.flag))
  else if d.opc = 0x13#8 then withoutFlag d .transfer
  else if d.opc = 0x14#8 then withoutFlag d .refresh
  else if d.opc = 0x15#8 then .op (.setBorder d.flag)
  else if d.opc = 0x16#8 then withoutFlag d .clearDisplay
  else .illegal .unknownOpcode

/-! ### The descriptor as one vector and as bytes (R91, R93) -/

/-- `Wk = D[32k+31 : 32k]` (R91). -/
def Descriptor.ofBits (v : BitVec 160) : Descriptor where
  w0 := v.extractLsb' 0 32
  w1 := v.extractLsb' 32 32
  w2 := v.extractLsb' 64 32
  w3 := v.extractLsb' 96 32
  w4 := v.extractLsb' 128 32

/-- The four bytes of a word, least significant first (R93). -/
def wordBytes (w : Word) : List Byte :=
  [w.extractLsb' 0 8, w.extractLsb' 8 8, w.extractLsb' 16 8, w.extractLsb' 24 8]

/-- The word whose little-endian bytes stand at index `i` of a list. -/
def wordAt (bs : List Byte) (i : Nat) : Word :=
  (bs.getD i 0).setWidth 32 ||| (bs.getD (i + 1) 0).setWidth 32 <<< 8
    ||| (bs.getD (i + 2) 0).setWidth 32 <<< 16 ||| (bs.getD (i + 3) 0).setWidth 32 <<< 24

/-- The 20-byte memory image: `W0` first, each word little-endian (R93). -/
def Descriptor.toBytes (d : Descriptor) : List Byte :=
  wordBytes d.w0 ++ wordBytes d.w1 ++ wordBytes d.w2 ++ wordBytes d.w3 ++ wordBytes d.w4

/-- Reading the memory image back; only an image of exactly 20 bytes is one (R90, R93). -/
def Descriptor.ofBytes (bs : List Byte) : Option Descriptor :=
  if bs.length = 20 then
    some { w0 := wordAt bs 0, w1 := wordAt bs 4, w2 := wordAt bs 8, w3 := wordAt bs 12, w4 := wordAt bs 16 }
  else none

/-- Decoding from bytes, total on any list of bytes. -/
def decodeBytes (bs : List Byte) : Decoded :=
  match Descriptor.ofBytes bs with
  | some d => decode d
  | none => .illegal .wrongLength

/-- The descriptor whose bits, numbered as spec/opcode_table.json numbers them, are the low `nbits` of `w`, the rest 0. -/
def tableDescriptor (nbits w : Nat) : Descriptor :=
  Descriptor.ofBits (BitVec.ofNat 160 (w % 2 ^ nbits))

/-- What the decoder reads from that descriptor, laid out as its 20 bytes. -/
def decodeTableWord (nbits w : Nat) : Option Instr :=
  match decodeBytes (tableDescriptor nbits w).toBytes with
  | .op i => some i
  | .illegal _ => none

/-! ### Encoding (R105) -/

/-- The `OPC` of each operation (R96). -/
def Instr.opc : Instr → Byte
  | .clearAll => 0x01
  | .clearRegion _ => 0x02
  | .blit _ _ _ => 0x03
  | .init => 0x10
  | .setAddressWindow _ _ _ _ => 0x11
  | .enableMode _ => 0x12
  | .transfer => 0x13
  | .refresh => 0x14
  | .setBorder _ => 0x15
  | .clearDisplay => 0x16

/-- The canonical encoding: 0 in every field the operation does not use (R105). -/
def encode : Instr → Descriptor
  | .clearAll => .pack 0x01 false 0 0 0 0 0 0
  | .clearRegion r => .pack 0x02 false (.ofInt 16 r.left) (.ofInt 16 r.top) (.ofInt 16 r.width) (.ofInt 16 r.height) 0 0
  | .blit base len r =>
    .pack 0x03 false (.ofInt 16 r.left) (.ofInt 16 r.top) (.ofInt 16 r.width) (.ofInt 16 r.height)
      (.ofNat 32 base) (.ofNat 32 len)
  | .init => .pack 0x10 false 0 0 0 0 0 0
  | .setAddressWindow xs xe ys ye =>
    .pack 0x11 false (.ofInt 16 xs) (.ofInt 16 xe) (.ofInt 16 ys) (.ofInt 16 ye) 0 0
  | .enableMode m => .pack 0x12 (flagOfMode m) 0 0 0 0 0 0
  | .transfer => .pack 0x13 false 0 0 0 0 0 0
  | .refresh => .pack 0x14 false 0 0 0 0 0 0
  | .setBorder w => .pack 0x15 w 0 0 0 0 0 0
  | .clearDisplay => .pack 0x16 false 0 0 0 0 0 0

/-- A canonical descriptor for an operation: every field the operation does not use is 0 (R97, R105). The halves and
words each operation uses are the "fields used" column of R96. -/
def Descriptor.canonicalFor (d : Descriptor) : Instr → Bool
  | .clearRegion _ | .setAddressWindow _ _ _ _ => d.w3 = 0#32 && d.w4 = 0#32
  | .blit _ _ _ => true
  | .clearAll | .init | .enableMode _ | .transfer | .refresh | .setBorder _ | .clearDisplay =>
    d.w1 = 0#32 && d.w2 = 0#32 && d.w3 = 0#32 && d.w4 = 0#32

/-! ### The opcode table (R96), as rows -/

/-- One row of R96: a descriptor selects the row when `W0 AND mask = match`. -/
structure OpcodeRow where
  mnemonic : String
  mask     : Word
  pattern  : Word
  deriving DecidableEq, Repr

/-- The ten rows of R96. -/
def opcodeTable : List OpcodeRow := [
  ⟨"CLEAR_ALL",          0xFFFFFFFF#32, 0x00000001#32⟩,
  ⟨"CLEAR_REGION",       0xFFFFFFFF#32, 0x00000002#32⟩,
  ⟨"BLIT",               0xFFFFFFFF#32, 0x00000003#32⟩,
  ⟨"INITIALIZE",         0xFFFFFFFF#32, 0x00000010#32⟩,
  ⟨"SET_ADDRESS_WINDOW", 0xFFFFFFFF#32, 0x00000011#32⟩,
  ⟨"ENABLE_MODE",        0xFFFFFEFF#32, 0x00000012#32⟩,
  ⟨"TRANSFER",           0xFFFFFFFF#32, 0x00000013#32⟩,
  ⟨"REFRESH",            0xFFFFFFFF#32, 0x00000014#32⟩,
  ⟨"SET_BORDER",         0xFFFFFEFF#32, 0x00000015#32⟩,
  ⟨"CLEAR_DISPLAY",      0xFFFFFFFF#32, 0x00000016#32⟩]

/-- `(W0 AND mask) = match` (R95). -/
def OpcodeRow.selects (row : OpcodeRow) (w0 : Word) : Bool := w0 &&& row.mask = row.pattern

/-- The mnemonic of an operation, as the table spells it. -/
def Instr.mnemonic : Instr → String
  | .clearAll => "CLEAR_ALL"
  | .clearRegion _ => "CLEAR_REGION"
  | .blit _ _ _ => "BLIT"
  | .init => "INITIALIZE"
  | .setAddressWindow _ _ _ _ => "SET_ADDRESS_WINDOW"
  | .enableMode _ => "ENABLE_MODE"
  | .transfer => "TRANSFER"
  | .refresh => "REFRESH"
  | .setBorder _ => "SET_BORDER"
  | .clearDisplay => "CLEAR_DISPLAY"

/-! ### Assembler (R104) -/

/-- Assembling an operation: an operand outside its field's range is an assembly error (R104). -/
def assemble (i : Instr) : Option Descriptor :=
  if i.wellFormed then some (encode i) else none

/-- Operands separated by commas (R104). -/
def asmOperands (xs : List Int) : String := ", ".intercalate (xs.map toString)

/-- The textual form of an operation: its mnemonic, then its operands in the source's order (R104). -/
def Instr.asmText (i : Instr) : String :=
  match i with
  | .clearRegion r => i.mnemonic ++ " " ++ asmOperands [r.left, r.top, r.width, r.height]
  | .blit base len r => i.mnemonic ++ " " ++ asmOperands [base, len, r.left, r.top, r.width, r.height]
  | .setAddressWindow xs xe ys ye => i.mnemonic ++ " " ++ asmOperands [xs, xe, ys, ye]
  | .enableMode .mode1 => i.mnemonic ++ " MODE1"
  | .enableMode .mode2 => i.mnemonic ++ " MODE2"
  | .setBorder true => i.mnemonic ++ " WHITE"
  | .setBorder false => i.mnemonic ++ " BLACK"
  | .clearAll | .init | .transfer | .refresh | .clearDisplay => i.mnemonic

end Sys2Proof
end

