-- ==== Sys2Proof/Machine/State.lean ====
section
/-! DEFINITION. The state of the block (spec/10_state.md R20 to R38) as plain data, with the model's own fields beside it
(INVENTORY.md '## State'), the reasons a step can stop, and the state after block reset. -/

namespace Sys2Proof.Machine

/-- The phase of the controller session (R27). -/
inductive Phase where
  | uninitialized
  | resetting
  | initialized
  | modeEnabled
  | refreshing
  deriving DecidableEq, Repr

/-- The five error kinds (spec/60_exceptions.md R190). -/
inductive ErrKind where
  | transportError
  | invalidGeometry
  | protocolStateError
  | busyTimeout
  | illegalOperation
  deriving DecidableEq, Repr

/-- The events of TRACE (spec/00_scope.md R14). In `rst` and `busy`, true is level 1 (asserted). -/
inductive Event where
  | rst (v : Bool)
  | delay (t : Nat)
  | cmd (b : Byte) (r : BusResult)
  | data (bs : List Byte) (r : BusResult)
  | busy (v : Bool)
  deriving DecidableEq, Repr

/-- What the host does next (R7(a), R25): it issues a descriptor; or issues it only if the operation before it ended with
`ERR = 0` (the second half of `SHOW`, spec/30_encoding.md R104); or stores a byte into its own memory, the SRC space. -/
inductive HostAction where
  | issue (d : Descriptor)
  | issueIfOk (d : Descriptor)
  | store (a : Word) (v : Byte)
  deriving DecidableEq, Repr

/-- A memory: (address, byte) cells in canonical form (`Memory.wf` in Ops.lean). -/
abbrev Memory := List Host.Cell

/-- The state of the machine. -/
structure State where
  -- configuration (MODEL, R36): never changed by a step
  cfg : Config
  -- state of the block (R20)
  /-- `FB_MEM` (R34). -/
  fbMem : Memory
  /-- `OPC` (R22). -/
  opc : Byte
  /-- `F` (R22). -/
  f : Bool
  /-- `A[0]` to `A[3]` (R21). -/
  a0 : Half
  a1 : Half
  a2 : Half
  a3 : Half
  /-- `SRC_BASE` (R22). -/
  srcBase : Word
  /-- `SRC_LEN` (R22). -/
  srcLen : Word
  /-- `USTEP` (R24). -/
  ustep : BitVec 8
  /-- `STATUS.ACTIVE` (R26). -/
  active : Bool
  /-- `STATUS.ERR` (R26); `none` is code 0, OK. -/
  err : Option ErrKind
  /-- `PHASE` (R27). -/
  phase : Phase
  /-- `MODE.MODE`, `MODE.MODE_VALID` (R28). -/
  mode : Mode
  modeValid : Bool
  /-- `BORDER.WHITE`, `BORDER.BORDER_VALID` (R29). -/
  borderWhite : Bool
  borderValid : Bool
  /-- `AW_X`, `AW_Y`, `AW_CTL` (R30). -/
  awXStart : Half
  awXEnd : Half
  awYStart : Half
  awYEnd : Half
  awValid : Bool
  /-- `POLLS` (R31). -/
  polls : Nat
  /-- `RESET_OUT` (R32), true is asserted. -/
  resetOut : Bool
  -- the MODEL's own fields (R36): inputs, outputs and counters
  /-- The descriptor accepted last, while its decode and its checks are still to come (R94: "The block then decodes ... and runs
  the checks"); `none` once they are done (log 4). R36 counts the descriptor being issued as no state of the block. -/
  issued : Option Descriptor
  /-- Contents of the SRC space (spec/20_memory.md R62). -/
  src : Memory
  /-- What the host does next (log 2). -/
  hostQueue : List HostAction
  /-- The environment's next answers to transactions (log 3). -/
  busIn : List BusResult
  /-- The environment's next busy levels, true is asserted (log 3). -/
  busyIn : List Bool
  /-- The platform asserts block reset (R220, R221; log 9). -/
  resetIn : Bool
  /-- Free draws taken so far (log 3). -/
  draws : Nat
  /-- Block resets so far (log 6). -/
  epoch : Nat
  /-- TRACE, oldest event first (R14). -/
  trace : List Event
  deriving DecidableEq, Repr

/-- Why the machine stops with a fault. No state a run from reset reaches raises one: both are states the spec says never
occur. -/
inductive Fault where
  /-- Raised by `storeFb` for an FB address outside `0..FB_SIZE-1` (R13: "a model that reaches one has a bug and must
  fault, not wrap"). Safe: the machine stops. -/
  | fbAddressOutOfRange
  /-- Raised by `runMicro` when `USTEP` points past the micro-program (R24: "`USTEP` never exceeds 24"). Safe. -/
  | microStepOutOfRange
  deriving DecidableEq, Repr

/-- Why the machine has no meaning for an operation. -/
inductive Refusal where
  /-- Raised by `exec` for an operation without a meaning yet; no arm does. Safe: the machine stops. -/
  | notModelled (mnemonic : String)
  deriving DecidableEq, Repr

/-- The outcome of a step. -/
abbrev Result := Host.Outcome State Fault Refusal

/-- The state after block reset (R38, R220). What R38 calls unspecified is the free value `Config.freeAtReset 0`, and the
framebuffer lists nothing; the inputs are empty. -/
def State.reset : State where
  cfg := Config.platform
  fbMem := []
  opc := (Config.freeAtReset 0).opc
  f := (Config.freeAtReset 0).f
  a0 := (Config.freeAtReset 0).a0
  a1 := (Config.freeAtReset 0).a1
  a2 := (Config.freeAtReset 0).a2
  a3 := (Config.freeAtReset 0).a3
  srcBase := (Config.freeAtReset 0).srcBase
  srcLen := (Config.freeAtReset 0).srcLen
  ustep := 0
  active := false
  err := none
  phase := .uninitialized
  mode := (Config.freeAtReset 0).mode
  modeValid := false
  borderWhite := (Config.freeAtReset 0).borderWhite
  borderValid := false
  awXStart := (Config.freeAtReset 0).awXStart
  awXEnd := (Config.freeAtReset 0).awXEnd
  awYStart := (Config.freeAtReset 0).awYStart
  awYEnd := (Config.freeAtReset 0).awYEnd
  awValid := false
  polls := 0
  resetOut := false
  issued := none
  src := []
  hostQueue := []
  busIn := []
  busyIn := []
  resetIn := false
  draws := 0
  epoch := 0
  trace := []

end Sys2Proof.Machine
end

