-- ==== Sys2Proof/Machine/Ops.lean ====
section
/-! DEFINITION. The named operations over the state: memories, the inputs, TRACE, accepting a descriptor, ending an operation
with an error or normally, block reset. -/

namespace Sys2Proof.Machine

/-! ### Memories: lists of cells in one canonical form, addresses strictly rising -/

/-- The canonical form. An unlisted address has no value at this level, so no cell can equal it. -/
abbrev Memory.wf (m : Memory) : Prop := m.Pairwise fun c d => c.1 < d.1

/-- The value listed at an address. -/
def Memory.lookup (a : Nat) : Memory → Option Byte
  | [] => none
  | c :: m => if c.1 = a then some c.2 else Memory.lookup a m

/-- One byte written, the canonical form kept. -/
def Memory.write (a : Nat) (v : Byte) : Memory → Memory
  | [] => [(a, v)]
  | c :: m =>
    if a < c.1 then (a, v) :: c :: m
    else if a = c.1 then (a, v) :: m
    else c :: Memory.write a v m

/-- Bytes written one after the other. -/
def Memory.writeAll (ws : List (Nat × Byte)) (m : Memory) : Memory :=
  ws.foldl (fun m w => m.write w.1 w.2) m

/-- `MemRead(FB:a, 1)` (spec/00_scope.md R13). A byte nothing has written since block reset is a free value (R38, U3). -/
def readFb (s : State) (a : Nat) : Byte := (Memory.lookup a s.fbMem).getD (Config.freeFbByte s.epoch a)

/-- `MemWrite(FB:a, 1, v)` for each pair of the list, in order: an address outside `0..FB_SIZE-1` must fault, not wrap (R13). -/
def storeFb (ws : List (Nat × Byte)) (s : State) : Result :=
  if ws.all fun w => w.1 < s.cfg.fbSize then .next { s with fbMem := s.fbMem.writeAll ws }
  else .fault .fbAddressOutOfRange

/-- `MemRead(SRC:a, 1)` (R13; spec/20_memory.md R62): no side effect, cannot fail. -/
def readSrc (s : State) (a : Nat) : Byte := (Memory.lookup a s.src).getD (Config.freeSrcByte a)

/-- The host stores a byte into its own memory. No operation of the block does (R60). -/
def storeSrc (a : Word) (v : Byte) (s : State) : State := { s with src := s.src.write a.toNat v }

/-! ### The pixel view (spec/20_memory.md R61, R64) -/

/-- The byte address of pixel (x, y): `y * FB_STRIDE + (x div 8)` (R61). -/
def pixelAddr (c : Config) (x y : Nat) : Nat := y * c.fbStride + x / 8

/-- The bit of a byte that holds pixel `x`: `7 - (x mod 8)` (R64; PRESUMED by the spec, G1; log 15). -/
def pixelBit (x : Nat) : Nat := 7 - x % 8

/-- Pixel (x, y) of the framebuffer, true is white (R64). -/
def readPixel (s : State) (x y : Nat) : Bool := (readFb s (pixelAddr s.cfg x y)).getLsbD (pixelBit x)

/-! ### Inputs and TRACE -/

/-- Append an event to TRACE (R14, R140). -/
def emit (e : Event) (s : State) : State := { s with trace := s.trace ++ [e] }

/-- The environment's answer to the transaction now started: the next listed one, else a free draw (R7(d), log 3). -/
def nextBus (s : State) : BusResult :=
  match s.busIn with
  | r :: _ => r
  | [] => Config.freeBusResult s.draws

/-- The state with that answer consumed. -/
def afterBus (s : State) : State :=
  match s.busIn with
  | _ :: rest => { s with busIn := rest }
  | [] => { s with draws := s.draws + 1 }

/-- `SampleBusy()`: true is level 1, controller busy (R13, R208); the next listed level, else a free draw. -/
def nextBusy (s : State) : Bool :=
  match s.busyIn with
  | v :: _ => v
  | [] => Config.freeBusy s.draws

/-- The state with that sample consumed. -/
def afterBusy (s : State) : State :=
  match s.busyIn with
  | _ :: rest => { s with busyIn := rest }
  | [] => { s with draws := s.draws + 1 }

/-! ### Accept (spec/30_encoding.md R94) -/

/-- Accept, one step (R94): the whole descriptor is latched into the operand registers, `USTEP <- 0`, `STATUS.ERR <- 0`,
`STATUS.ACTIVE <- 1`. Decode and the checks come next, so the descriptor is kept in `issued` until then: decode looks at all
of `W0`, and no operand register holds `W0[31:9]`. -/
def accept (d : Descriptor) (s : State) : State :=
  { s with
    opc := d.opc, f := d.flag, a0 := d.a0, a1 := d.a1, a2 := d.a2, a3 := d.a3,
    srcBase := d.w3, srcLen := d.w4, ustep := 0, err := none, active := true, issued := some d }

/-- The descriptor the operand registers hold, reserved bits 0: the operation in flight (R21, R22). -/
def operandDescriptor (s : State) : Descriptor :=
  .pack s.opc s.f s.a0 s.a1 s.a2 s.a3 s.srcBase s.srcLen

/-- What the descriptor of the operation in flight decodes to (R95): the one just accepted, or, when its checks are done, the
one the operand registers hold (log 11). -/
def current (s : State) : Decoded := decode (s.issued.getD (operandDescriptor s))

/-- The checks are done and passed: the micro-program starts (R149, R160). -/
def startOp (s : State) : State := { s with issued := none }

/-! ### The end of an operation (spec/60_exceptions.md) -/

/-- Whether an error kind invalidates the session (R196). -/
def ErrKind.isRunTime : ErrKind → Bool
  | .transportError | .busyTimeout => true
  | .invalidGeometry | .protocolStateError | .illegalOperation => false

/-- The session part of R196: phase Uninitialized, the mirrors invalid. -/
def invalidateSession (s : State) : State :=
  { s with phase := .uninitialized, modeValid := false, awValid := false, borderValid := false }

/-- `raise E` (R196): the operation in flight ends with an error. Nothing is saved, no control transfer; `USTEP` keeps the
index of the micro-operation that raised. -/
def raise (e : ErrKind) (s : State) : State :=
  let s' := if e.isRunTime then invalidateSession s else s
  { s' with err := some e, polls := 0, active := false, issued := none }

/-- `done` (R199): the normal end. It is also the only way back to idle besides `raise`: there is no return
operation (R200). -/
def finish (s : State) : State := { s with err := none, polls := 0, active := false, issued := none }

/-! ### Block reset (spec/70_reset_and_hazards.md R220, R222) -/

/-- Block reset: every register at its value of R38, what R38 calls unspecified drawn anew, `FB_MEM` unspecified (R222),
TRACE empty. The configuration, the host's memory and program, and the environment's answers are not the block's. -/
def blockReset (s : State) : State :=
  let n := s.epoch + 1
  let u := Config.freeAtReset n
  { s with
    fbMem := [],
    opc := u.opc, f := u.f, a0 := u.a0, a1 := u.a1, a2 := u.a2, a3 := u.a3, srcBase := u.srcBase, srcLen := u.srcLen,
    ustep := 0, active := false, err := none, phase := .uninitialized,
    mode := u.mode, modeValid := false, borderWhite := u.borderWhite, borderValid := false,
    awXStart := u.awXStart, awXEnd := u.awXEnd, awYStart := u.awYStart, awYEnd := u.awYEnd, awValid := false,
    polls := 0, resetOut := false, issued := none, resetIn := false, epoch := n, trace := [] }

end Sys2Proof.Machine
end

