-- ==== Sys2Proof/Machine/Operands.lean ====
section
/-! DEFINITION. The operand checks and the clipping arithmetic of the framebuffer operations
(spec/40_framebuffer_ops.md R122 to R128), the operand checks of the driver operations (spec/42_driver_ops.md), all on
unbounded integers (spec/00_scope.md R11). -/

namespace Sys2Proof.Machine

/-- `RectValid` (R122). Divisibility is mathematical: -8 and -32 are aligned, -4 is not. -/
def rectValid (r : Rect) : Bool :=
  decide (r.width ≥ 0) && decide (r.height ≥ 0) && decide (r.left % 8 = 0) && decide (r.width % 8 = 0)

/-- The pairs (j, k) of a loop over `rows` rows and `cols` byte columns, row by row (R130: the order is immaterial). -/
def grid (rows cols : Nat) : List (Nat × Nat) :=
  (List.range rows).flatMap fun j => (List.range cols).map fun k => (j, k)

/-- The addresses CLEAR_ALL writes: `a in 0 .. FB_SIZE-1` (R121). -/
def allAddrs (c : Config) : List Nat := List.range c.fbSize

/-- The addresses CLEAR_REGION writes (R124). `right` and `bottom` are computed from the unclamped `left` and `top`. -/
def regionAddrs (c : Config) (r : Rect) : List Nat :=
  let l := max r.left 0
  let t := max r.top 0
  let rt := min (r.left + r.width) c.fbW
  let b := min (r.top + r.height) c.fbH
  if l ≥ rt ∨ t ≥ b then []
  else (grid (b - t).toNat (rt / 8 - l / 8).toNat).map fun p =>
    (t.toNat + p.1) * c.fbStride + ((l / 8).toNat + p.2)

/-- `need = height * SRC_STRIDE`, with `SRC_STRIDE = width / 8` (R125). -/
def blitNeed (r : Rect) : Int := r.height * (r.width / 8)

/-- BLIT's source check (R125): long enough for the unclipped rectangle, and within the 32-bit space. -/
def sourceValid (base len : Nat) (r : Rect) : Bool :=
  decide (blitNeed r ≤ len) && decide (base + len ≤ 2 ^ 32)

/-- The effective copy of a BLIT (R126). -/
structure BlitClip where
  ew : Int
  eh : Int
  sx : Int
  sy : Int
  dx : Int
  dy : Int
  deriving DecidableEq, Repr

/-- The four independent adjustments of R126, as the rule writes them. -/
def blitClip (c : Config) (r : Rect) : BlitClip where
  ew := r.width - (if r.left < 0 then -r.left else 0)
        - (if r.left + r.width > c.fbW then r.left + r.width - c.fbW else 0)
  eh := r.height - (if r.top < 0 then -r.top else 0)
        - (if r.top + r.height > c.fbH then r.top + r.height - c.fbH else 0)
  sx := if r.left < 0 then (-r.left) / 8 else 0
  sy := if r.top < 0 then -r.top else 0
  dx := if r.left < 0 then 0 else r.left
  dy := if r.top < 0 then 0 else r.top

/-- The byte moves of a BLIT as (FB address, SRC address) pairs (R127). The source row advances by `width/8`, the
destination row by `FB_STRIDE` (R128). -/
def blitMoves (c : Config) (base : Nat) (r : Rect) : List (Nat × Nat) :=
  let p := blitClip c r
  if p.ew ≤ 0 ∨ p.eh ≤ 0 then []
  else (grid p.eh.toNat (p.ew / 8).toNat).map fun q =>
    ((p.dy.toNat + q.1) * c.fbStride + (p.dx / 8).toNat + q.2,
     base + (p.sy.toNat + q.1) * (r.width / 8).toNat + p.sx.toNat + q.2)

/-- SET_ADDRESS_WINDOW's geometry check (spec/42_driver_ops.md R163): no order and no alignment required. -/
def windowValid (xs xe ys ye : Int) : Bool :=
  decide (0 ≤ xs ∧ xs ≤ 2047) && decide (0 ≤ xe ∧ xe ≤ 2047) && decide (0 ≤ ys) && decide (0 ≤ ye)

/-- TRANSFER's geometry check (R165): `FB_W >= 8` and `FB_H >= 1`. -/
def framebufferNonempty (c : Config) : Bool := decide (c.fbW ≥ 8) && decide (c.fbH ≥ 1)

/-- Valid phases at accept for SET_ADDRESS_WINDOW, ENABLE_MODE, TRANSFER, SET_BORDER (R169). -/
def Phase.sessionReady : Phase → Bool
  | .initialized | .modeEnabled => true
  | .uninitialized | .resetting | .refreshing => false

/-- Valid phase at accept for REFRESH and CLEAR_DISPLAY (R169). -/
def Phase.hasMode : Phase → Bool
  | .modeEnabled => true
  | .uninitialized | .resetting | .initialized | .refreshing => false

/-- Valid phase at accept for INITIALIZE (R169). -/
def Phase.fresh : Phase → Bool
  | .uninitialized => true
  | .resetting | .initialized | .modeEnabled | .refreshing => false

end Sys2Proof.Machine
end

