-- ==== Sys2Proof/Machine/Sequencer.lean ====
section
/-! DEFINITION. The sequencer's micro-operations and how it runs a micro-program
(spec/41_bus_primitives.md R140 to R150), and the order of a driver operation (spec/42_driver_ops.md R160). -/

namespace Sys2Proof.Machine

/-- The micro-operations (R140). In `rst`, true asserts. -/
inductive MicroOp where
  | cmd (b : Byte)
  | data (bs : List Byte)
  | wait
  | rst (v : Bool)
  | delay (t : Nat)
  deriving DecidableEq, Repr

/-- A transaction as the transport's contract words it: `transact(command_byte_or_none, tx_bytes, expect_rx_bytes)` (R143). -/
structure Transaction where
  command  : Option Byte
  tx       : List Byte
  expectRx : Nat
  deriving DecidableEq, Repr

/-- The level of the data-select output during a transaction (R210). -/
inductive DataSelect where
  | command
  | data
  deriving DecidableEq, Repr

/-- The transaction a micro-operation performs, if any: `Bus(Cmd b) = transact(b, [], 0)`, `Bus(Data bs) =
transact(none, bs, 0)` (R143). -/
def MicroOp.transaction : MicroOp → Option Transaction
  | .cmd b => some ⟨some b, [], 0⟩
  | .data bs => some ⟨none, bs, 0⟩
  | .wait | .rst _ | .delay _ => none

/-- Data-select is at the command level for a command transaction and at the data level for a data transaction (R210). -/
def Transaction.dataSelect (t : Transaction) : DataSelect :=
  match t.command with
  | some _ => .command
  | none => .data

/-- What one step of a micro-operation comes to. -/
inductive MicroOutcome where
  /-- It succeeded: `ustep <- USTEP + 1`. -/
  | advance (s : State)
  /-- A WAIT that found busy asserted: `USTEP` unchanged. -/
  | stay (s : State)
  /-- `raise e`. -/
  | raised (e : ErrKind) (s : State)

/-- One bus transaction, and its event (R141, R142): the environment answers, nothing is re-sent. -/
def busStep (event : BusResult → Event) (s : State) : MicroOutcome :=
  match nextBus s with
  | .ok => .advance (emit (event .ok) (afterBus s))
  | .fail => .raised .transportError (emit (event .fail) (afterBus s))

/-- One sample of a WAIT (R144 for the baseline, R145 with a bound): the first sample is taken without a preceding delay. -/
def waitStep (s : State) : MicroOutcome :=
  let s' := emit (.busy (nextBusy s)) (afterBusy s)
  match s.cfg.busyTimeoutPolls with
  | none =>
    if nextBusy s then .stay (emit (.delay s.cfg.pay.tPoll) s') else .advance s'
  | some n =>
    if nextBusy s then
      if s.polls + 1 ≥ n then .raised .busyTimeout { s' with polls := 0 }
      else .stay (emit (.delay s.cfg.pay.tPoll) { s' with polls := s.polls + 1 })
    else .advance { s' with polls := 0 }

/-- One step of a micro-operation (R141 to R147). -/
def microStep (m : MicroOp) (s : State) : MicroOutcome :=
  match m with
  | .cmd b => busStep (.cmd b) s
  | .data bs => busStep (.data bs) s
  | .wait => waitStep s
  | .rst v => .advance (emit (.rst v) { s with resetOut := v })
  | .delay t => .advance (emit (.delay t) s)

/-- The SEQ's step in a micro-program (R149): execute `P[USTEP]`. `after k` is what the operation's rule attaches to the success
of position `k`, completion included; when `USTEP` reaches the length the operation ends with `done` in that same step. -/
def runMicro (prog : List MicroOp) (after : Nat → State → State) (s : State) : Result :=
  match prog[s.ustep.toNat]? with
  | none => .fault .microStepOutOfRange
  | some m =>
    match microStep m s with
    | .stay s' => .next s'
    | .raised e s' => .next (raise e s')
    | .advance s' =>
      let t := after s.ustep.toNat { s' with ustep := s'.ustep + 1 }
      if s.ustep.toNat + 1 = prog.length then .next (finish t) else .next t

/-- A step of a driver operation in the order of R160. Just accepted: the phase check, then the geometry check, then the updates
attached to accept (R198: phase before geometry). Its checks done: the next micro-operation. -/
def driverOp (phaseValid : Phase → Bool) (geometryValid : Bool) (onAccept : State → State)
    (prog : List MicroOp) (after : Nat → State → State) (s : State) : Result :=
  match s.issued with
  | none => runMicro prog after s
  | some _ =>
    if phaseValid s.phase = false then .next (raise .protocolStateError s)
    else if geometryValid = false then .next (raise .invalidGeometry s)
    else .next (startOp (onAccept s))

/-! ### The window sub-sequence (R148; payloads: spec/30_encoding.md R102) -/

/-- A Y value as two bytes, low byte first: `y & 0xFF`, `y >> 8` (R65, R102). -/
def yBytes (y : Nat) : List Byte := [BitVec.ofNat 8 (y % 256), BitVec.ofNat 8 (y / 256)]

/-- An X value in units of 8 pixels: `x div 8` (R102). -/
def xByte (x : Nat) : Byte := BitVec.ofNat 8 (x / 8)

/-- `WINDOW(xs, xe, ys, ye)` (R148). -/
def windowProgram (c : Config) (xs xe ys ye : Nat) : List MicroOp := [
  .cmd c.cmd.setXWindow,
  .data [xByte xs, xByte xe],
  .cmd c.cmd.setYWindow,
  .data (yBytes ys ++ yBytes ye),
  .cmd c.cmd.setXPointer,
  .data [xByte xs],
  .cmd c.cmd.setYPointer,
  .data (yBytes ys)]

/-- What R148 attaches to the success of WINDOW's last micro-operation: the window registers. -/
def setWindow (xs xe ys ye : Nat) (s : State) : State :=
  { s with
    awXStart := BitVec.ofNat 16 xs, awXEnd := BitVec.ofNat 16 xe,
    awYStart := BitVec.ofNat 16 ys, awYEnd := BitVec.ofNat 16 ye, awValid := true }

/-- The border register after a border command (R29, R161, R167). -/
def setBorderReg (w : Bool) (s : State) : State := { s with borderWhite := w, borderValid := true }

/-- The phase alone. -/
def setPhase (p : Phase) (s : State) : State := { s with phase := p }

end Sys2Proof.Machine
end

