-- ==== Sys2Proof/Machine/Driver.lean ====
section
/-! DEFINITION. The driver's seven operations (spec/42_driver_ops.md R161 to R168): for each its micro-program, what it attaches
to the success of a position, and its meaning, one step of it. -/

namespace Sys2Proof.Machine

/-! ### INITIALIZE (R161) -/

/-- The payload of a border command (R101). -/
def borderData (c : Config) (white : Bool) : List Byte :=
  if white then [c.pay.borderDataWhite] else [c.pay.borderDataBlack]

/-- The 24 micro-operations of R161. -/
def initProgram (c : Config) : List MicroOp :=
  [.rst true, .delay c.pay.tSettle, .delay c.pay.tSettle, .rst false, .delay c.pay.tSettle,
   .wait, .cmd c.cmd.swReset, .wait,
   .cmd c.cmd.outputScan, .data c.pay.outputScanData,
   .cmd c.cmd.dataEntryMode, .data [c.pay.dataEntryModeValue]]
  ++ windowProgram c 0 (c.panelW - 1) 0 (c.panelH - 1)
  ++ [.cmd c.cmd.border, .data (borderData c c.pay.initBorderWhite),
      .cmd c.cmd.tempSource, .data [c.pay.tempSourceValue]]

/-- At accept: phase Resetting, the mirrors invalid. -/
def initAccept (s : State) : State :=
  { s with phase := .resetting, awValid := false, modeValid := false, borderValid := false }

/-- Step 19: the window registers; step 21: the border register; completion: phase Initialized, `MODE_VALID <- 0` (R37). -/
def initAfter (k : Nat) (s : State) : State :=
  match k with
  | 19 => setWindow 0 (s.cfg.panelW - 1) 0 (s.cfg.panelH - 1) s
  | 21 => setBorderReg s.cfg.pay.initBorderWhite s
  | 23 => { s with phase := .initialized, modeValid := false }
  | _ => s

/-- INITIALIZE (R161). -/
def execInit (s : State) : Result :=
  driverOp Phase.fresh true initAccept (initProgram s.cfg) initAfter s

/-! ### SET_ADDRESS_WINDOW (R163) -/

/-- Step 7: the window registers. -/
def setAddressWindowAfter (xs xe ys ye : Nat) (k : Nat) (s : State) : State :=
  match k with
  | 7 => setWindow xs xe ys ye s
  | _ => s

/-- SET_ADDRESS_WINDOW (R163). -/
def execSetAddressWindow (xs xe ys ye : Int) (s : State) : Result :=
  driverOp Phase.sessionReady (windowValid xs xe ys ye) id
    (windowProgram s.cfg xs.toNat xe.toNat ys.toNat ye.toNat)
    (setAddressWindowAfter xs.toNat xe.toNat ys.toNat ye.toNat) s

/-! ### ENABLE_MODE (R164) -/

/-- The table of a mode (R9, R101). -/
def lutOf (c : Config) : Mode → List Byte
  | .mode1 => c.pay.lutMode1
  | .mode2 => c.pay.lutMode2

/-- The selection byte before an enabling activation (R9, R101). -/
def updEnableOf (c : Config) : Mode → Byte
  | .mode1 => c.pay.updEnableMode1
  | .mode2 => c.pay.updEnableMode2

/-- The selection byte before a refreshing activation (R9, R101). -/
def updRefreshOf (c : Config) : Mode → Byte
  | .mode1 => c.pay.updRefreshMode1
  | .mode2 => c.pay.updRefreshMode2

/-- The 6 micro-operations of R164. -/
def enableModeProgram (c : Config) (m : Mode) : List MicroOp :=
  [.cmd c.cmd.writeLut, .data (lutOf c m), .cmd c.cmd.updateCtrl, .data [updEnableOf c m],
   .cmd c.cmd.masterActivation, .wait]

/-- Completion: phase ModeEnabled, the mode valid. Until then `PHASE` and `MODE` keep their values. -/
def enableModeAfter (m : Mode) (k : Nat) (s : State) : State :=
  match k with
  | 5 => { s with phase := .modeEnabled, mode := m, modeValid := true }
  | _ => s

/-- ENABLE_MODE (R164). -/
def execEnableMode (m : Mode) (s : State) : Result :=
  driverOp Phase.sessionReady true id (enableModeProgram s.cfg m) (enableModeAfter m) s

/-! ### TRANSFER (R165) -/

/-- `FB_MEM` in address order (R103). -/
def fbImage (s : State) : List Byte := (List.range s.cfg.fbSize).map (readFb s)

/-- The 10 micro-operations of R165. -/
def transferProgram (s : State) : List MicroOp :=
  windowProgram s.cfg 0 (s.cfg.fbW - 1) 0 (s.cfg.fbH - 1) ++ [.cmd s.cfg.cmd.writeRam, .data (fbImage s)]

/-- Step 7: the window registers. -/
def transferAfter (k : Nat) (s : State) : State :=
  match k with
  | 7 => setWindow 0 (s.cfg.fbW - 1) 0 (s.cfg.fbH - 1) s
  | _ => s

/-- TRANSFER (R165). -/
def execTransfer (s : State) : Result :=
  driverOp Phase.sessionReady (framebufferNonempty s.cfg) id (transferProgram s) transferAfter s

/-! ### REFRESH (R166) -/

/-- The 4 micro-operations of R166. -/
def refreshProgram (c : Config) (m : Mode) : List MicroOp :=
  [.cmd c.cmd.updateCtrl, .data [updRefreshOf c m], .cmd c.cmd.masterActivation, .wait]

/-- Completion: back to phase ModeEnabled, the mode kept. -/
def refreshAfter (k : Nat) (s : State) : State :=
  match k with
  | 3 => setPhase .modeEnabled s
  | _ => s

/-- REFRESH (R166): the mode is `MODE.MODE`. -/
def execRefresh (s : State) : Result :=
  driverOp Phase.hasMode true (setPhase .refreshing) (refreshProgram s.cfg s.mode) refreshAfter s

/-! ### SET_BORDER (R167) -/

/-- The 2 micro-operations of R167. -/
def setBorderProgram (c : Config) (white : Bool) : List MicroOp :=
  [.cmd c.cmd.border, .data (borderData c white)]

/-- Step 1: the border register. -/
def setBorderAfter (white : Bool) (k : Nat) (s : State) : State :=
  match k with
  | 1 => setBorderReg white s
  | _ => s

/-- SET_BORDER (R167). -/
def execSetBorder (white : Bool) (s : State) : Result :=
  driverOp Phase.sessionReady true id (setBorderProgram s.cfg white) (setBorderAfter white) s

/-! ### CLEAR_DISPLAY (R168) -/

/-- The 14 micro-operations of R168: the white bytes are generated, `FB_MEM` is not read. -/
def clearDisplayProgram (c : Config) (m : Mode) : List MicroOp :=
  windowProgram c 0 (c.panelW - 1) 0 (c.panelH - 1)
  ++ [.cmd c.cmd.writeRam, .data (List.replicate c.panelBytes 0xFF#8)]
  ++ refreshProgram c m

/-- Step 7: the window registers; step 9: phase Refreshing; completion: phase ModeEnabled. -/
def clearDisplayAfter (k : Nat) (s : State) : State :=
  match k with
  | 7 => setWindow 0 (s.cfg.panelW - 1) 0 (s.cfg.panelH - 1) s
  | 9 => setPhase .refreshing s
  | 13 => setPhase .modeEnabled s
  | _ => s

/-- CLEAR_DISPLAY (R168). -/
def execClearDisplay (s : State) : Result :=
  driverOp Phase.hasMode true id (clearDisplayProgram s.cfg s.mode) clearDisplayAfter s

/-! ### The micro-program of an operation -/

/-- The micro-program of each operation (R149), empty for the framebuffer unit's (R120: "they cause no bus transaction"). -/
def microProgram (i : Instr) (s : State) : List MicroOp :=
  match i with
  | .clearAll => []
  | .clearRegion _ => []
  | .blit _ _ _ => []
  | .init => initProgram s.cfg
  | .setAddressWindow xs xe ys ye => windowProgram s.cfg xs.toNat xe.toNat ys.toNat ye.toNat
  | .enableMode m => enableModeProgram s.cfg m
  | .transfer => transferProgram s
  | .refresh => refreshProgram s.cfg s.mode
  | .setBorder w => setBorderProgram s.cfg w
  | .clearDisplay => clearDisplayProgram s.cfg s.mode

/-- The seven operations of the SEQ; the other three are the FBU's (R96). -/
def isDriver : Instr → Bool
  | .clearAll => false
  | .clearRegion _ => false
  | .blit _ _ _ => false
  | .init => true
  | .setAddressWindow _ _ _ _ => true
  | .enableMode _ => true
  | .transfer => true
  | .refresh => true
  | .setBorder _ => true
  | .clearDisplay => true

/-- The valid phases of R169. -/
def phaseValidFor (i : Instr) (p : Phase) : Bool :=
  match i with
  | .clearAll => true
  | .clearRegion _ => true
  | .blit _ _ _ => true
  | .init => p.fresh
  | .setAddressWindow _ _ _ _ => p.sessionReady
  | .enableMode _ => p.sessionReady
  | .transfer => p.sessionReady
  | .refresh => p.hasMode
  | .setBorder _ => p.sessionReady
  | .clearDisplay => p.hasMode

/-- The geometry check of an operation of the SEQ (R163, R165). -/
def geometryOf (i : Instr) (c : Config) : Bool :=
  match i with
  | .clearAll => true
  | .clearRegion _ => true
  | .blit _ _ _ => true
  | .init => true
  | .setAddressWindow xs xe ys ye => windowValid xs xe ys ye
  | .enableMode _ => true
  | .transfer => framebufferNonempty c
  | .refresh => true
  | .setBorder _ => true
  | .clearDisplay => true

/-- What an operation's rule attaches to its accept (R160, step 4). -/
def acceptOf (i : Instr) (s : State) : State :=
  match i with
  | .clearAll => s
  | .clearRegion _ => s
  | .blit _ _ _ => s
  | .init => initAccept s
  | .setAddressWindow _ _ _ _ => s
  | .enableMode _ => s
  | .transfer => s
  | .refresh => setPhase .refreshing s
  | .setBorder _ => s
  | .clearDisplay => s

/-- What an operation's rule attaches to the success of position `k` of its micro-program (R149). -/
def afterOf (i : Instr) (k : Nat) (s : State) : State :=
  match i with
  | .clearAll => s
  | .clearRegion _ => s
  | .blit _ _ _ => s
  | .init => initAfter k s
  | .setAddressWindow xs xe ys ye => setAddressWindowAfter xs.toNat xe.toNat ys.toNat ye.toNat k s
  | .enableMode m => enableModeAfter m k s
  | .transfer => transferAfter k s
  | .refresh => refreshAfter k s
  | .setBorder w => setBorderAfter w k s
  | .clearDisplay => clearDisplayAfter k s

end Sys2Proof.Machine
end

