-- ==== Sys2Proof/Machine/Framebuffer.lean ====
section
/-! DEFINITION. The framebuffer unit's operations CLEAR_ALL, CLEAR_REGION and BLIT (spec/40_framebuffer_ops.md): decode is
done, then geometry, then execution, which cannot fail (R120). Each is the one atomic step after its accept (R71, R120). -/

namespace Sys2Proof.Machine

/-- Write the bytes, then `done`. -/
def fillAndFinish (ws : List (Nat × Byte)) (s : State) : Result :=
  match storeFb ws s with
  | .next s' => .next (finish s')
  | .fault r => .fault r
  | .refused r => .refused r

/-- CLEAR_ALL (R121): every byte of `FB_MEM` becomes 0xFF. The addresses are `0..FB_SIZE-1` by construction, so `storeFb`'s
range check has nothing to find. -/
def execClearAll (s : State) : Result :=
  .next (finish { s with fbMem := s.fbMem.writeAll ((allAddrs s.cfg).map fun a => (a, 0xFF#8)) })

/-- CLEAR_REGION (R124): the clipped rectangle becomes 0xFF; InvalidGeometry when not `RectValid` (R123). -/
def execClearRegion (r : Rect) (s : State) : Result :=
  if rectValid r then fillAndFinish ((regionAddrs s.cfg r).map fun a => (a, 0xFF#8)) s
  else .next (raise .invalidGeometry s)

/-- BLIT (R127): the clipped source bytes overwrite the destination bytes; InvalidGeometry by R123 and R125. -/
def execBlit (base len : Nat) (r : Rect) (s : State) : Result :=
  if rectValid r && sourceValid base len r then
    fillAndFinish ((blitMoves s.cfg base r).map fun p => (p.1, readSrc s p.2)) s
  else .next (raise .invalidGeometry s)

end Sys2Proof.Machine
end

