-- ==== Sys2Proof/Machine/Dispatch.lean ====
section
/-! DEFINITION. The meaning of each operation: one step of it. A framebuffer operation runs to its end in the step; a driver
operation just accepted is checked and started, one whose checks are done executes its next micro-operation. -/

namespace Sys2Proof.Machine

def exec (i : Instr) (s : State) : Host.Outcome State Fault Refusal :=
  match i with
  -- framebuffer unit (spec/40_framebuffer_ops.md)
  | .clearAll => Sys2Proof.Machine.execClearAll s
  | .clearRegion r => Sys2Proof.Machine.execClearRegion r s
  | .blit base len r => Sys2Proof.Machine.execBlit base len r s
  -- protocol sequencer (spec/42_driver_ops.md)
  | .init => Sys2Proof.Machine.execInit s
  | .setAddressWindow xs xe ys ye => Sys2Proof.Machine.execSetAddressWindow xs xe ys ye s
  | .enableMode m => Sys2Proof.Machine.execEnableMode m s
  | .transfer => Sys2Proof.Machine.execTransfer s
  | .refresh => Sys2Proof.Machine.execRefresh s
  | .setBorder white => Sys2Proof.Machine.execSetBorder white s
  | .clearDisplay => Sys2Proof.Machine.execClearDisplay s

end Sys2Proof.Machine
end

