-- ==== Sys2Proof/Machine/Accept.lean ====
section
/-! DEFINITION. Continuing the operation in flight, decode first (spec/30_encoding.md R94, R95, R98), and the host's actions, among
them handing over a descriptor; the pieces `step` puts together. -/

namespace Sys2Proof.Machine

/-- The next step of the operation in flight. The step after accept decodes (R94, R95): an illegal descriptor ends at once
(R98, R195), an operation runs its checks and starts. Later steps are micro-operations of the operation the operand registers
hold. -/
def continueOp (s : State) : Result :=
  match current s with
  | .op i => exec i s
  | .illegal _ => .next (raise .illegalOperation s)

/-- One action of the host, which is not blocked. -/
def hostAct (act : HostAction) (s : State) : State :=
  match act with
  | .issue d => accept d s
  | .issueIfOk d => if s.err = none then accept d s else s
  | .store a v => storeSrc a v s

/-- An idle block: the host's next action, or none, and then nothing changes (R220: "the block is idle and waits"). -/
def idleStep (s : State) : Result :=
  match s.hostQueue with
  | [] => .next s
  | act :: rest => .next (hostAct act { s with hostQueue := rest })

/-- The host's actions for the pseudo-operation `SHOW` (R104): TRANSFER, then REFRESH unless the TRANSFER ended with an error. -/
def showActions : List HostAction := [.issue (encode .transfer), .issueIfOk (encode .refresh)]

end Sys2Proof.Machine
end

