-- ==== Sys2Proof/Machine/Step.lean ====
section
/-! DEFINITION. One step of the machine: block reset first, else the operation in flight, else the host
(spec/00_scope.md R7; spec/30_encoding.md R94: while `ACTIVE = 1` the host has no step). -/

namespace Sys2Proof.Machine

/-- One step. -/
def step (s : State) : Host.Outcome State Fault Refusal :=
  if s.resetIn then .next (blockReset s)
  else if s.active then continueOp s
  else idleStep s

/-- `s` with the descriptor of the table's bits handed over to the block, no block reset asserted, so that the next step decodes
and runs it. The block fetches nothing (R78): accept is what brings an operation in (log 2). -/
def State.withFetchWord (s : State) (nbits w : Nat) : State :=
  accept (tableDescriptor nbits w) { s with resetIn := false }

end Sys2Proof.Machine
end

