-- ==== Sys2Proof/Machine/Flags.lean ====
section
/-! DEFINITION. The registers as the host reads them (spec/10_state.md R24 to R33): read-only views of the state, without
side effect, and the framebuffer read port (R34). -/

namespace Sys2Proof.Machine

/-- `STATUS.ERR` codes (R26; spec/60_exceptions.md R190). -/
def errCode : Option ErrKind → BitVec 3
  | none => 0
  | some .transportError => 1
  | some .invalidGeometry => 2
  | some .protocolStateError => 3
  | some .busyTimeout => 4
  | some .illegalOperation => 5

/-- `PHASE` codes (R27). -/
def phaseCode : Phase → BitVec 3
  | .uninitialized => 0
  | .resetting => 1
  | .initialized => 2
  | .modeEnabled => 3
  | .refreshing => 4

/-- The bit of a mode (R28). -/
def modeBit : Mode → BitVec 1
  | .mode1 => 0
  | .mode2 => 1

/-- Register 0, `STATUS`: ACTIVE in bit 0, ERR in bits 3:1 (R26). -/
def statusReg (s : State) : Word := 
  (BitVec.ofBool s.active).setWidth 32 ||| (errCode s.err).setWidth 32 <<< 1

/-- Register 1, `PHASE` in bits 2:0 (R27). -/
def phaseReg (s : State) : Word := (phaseCode s.phase).setWidth 32

/-- Register 2: `MODE` in bit 0, `MODE_VALID` in bit 1 (R28). While the valid bit is 0 the host reads a draw (U4, log 7). -/
def modeReg (s : State) : Word :=
  let m := if s.modeValid then modeBit s.mode else (Config.freeInvalidRead 2 s.draws).extractLsb' 0 1
  m.setWidth 32 ||| (BitVec.ofBool s.modeValid).setWidth 32 <<< 1

/-- Register 3: `WHITE` in bit 0, `BORDER_VALID` in bit 1 (R29); U4 as for MODE. -/
def borderReg (s : State) : Word :=
  let w := if s.borderValid then BitVec.ofBool s.borderWhite else (Config.freeInvalidRead 3 s.draws).extractLsb' 0 1
  w.setWidth 32 ||| (BitVec.ofBool s.borderValid).setWidth 32 <<< 1

/-- Register 4, `AW_X`: X_START in bits 15:0, X_END in bits 31:16 (R30); a draw while `AW_VALID = 0` (U4). -/
def awXReg (s : State) : Word :=
  if s.awValid then s.awXStart.setWidth 32 ||| s.awXEnd.setWidth 32 <<< 16 else Config.freeInvalidRead 4 s.draws

/-- Register 5, `AW_Y`: Y_START in bits 15:0, Y_END in bits 31:16 (R30); a draw while `AW_VALID = 0` (U4). -/
def awYReg (s : State) : Word :=
  if s.awValid then s.awYStart.setWidth 32 ||| s.awYEnd.setWidth 32 <<< 16 else Config.freeInvalidRead 5 s.draws

/-- Register 6, `AW_CTL`: `AW_VALID` in bit 0 (R30). -/
def awCtlReg (s : State) : Word := (BitVec.ofBool s.awValid).setWidth 32

/-- Register 7, `USTEP` in bits 7:0 (R33). -/
def ustepReg (s : State) : Word := s.ustep.setWidth 32

/-- The host's register port (R33): a read of any other number returns 0. -/
def hostRead (s : State) : Nat → Word
  | 0 => statusReg s
  | 1 => phaseReg s
  | 2 => modeReg s
  | 3 => borderReg s
  | 4 => awXReg s
  | 5 => awYReg s
  | 6 => awCtlReg s
  | 7 => ustepReg s
  | _ => 0

/-- The host's framebuffer read port (R34): any byte of `FB_MEM`, while `ACTIVE = 0`; nothing else is mapped there (R73). -/
def hostReadFb (s : State) (a : Nat) : Option Byte :=
  if s.active = false ∧ a < s.cfg.fbSize then some (readFb s a) else none

end Sys2Proof.Machine
end

