-- ==== Sys2Proof/Safety.lean ====
section
/-! DEFINITION. What counts as a safe run, in the terms the claims use: runs of the machine, the invariant every step keeps, and
the side conditions of the claims. -/

namespace Sys2Proof.Machine

/-- `n` steps of the machine. -/
def runFor (n : Nat) (s : State) : Result := Sys2Proof.core.run n s

/-- Nothing in flight and no block reset: the host may hand over a descriptor (R94). -/
def Idle (s : State) : Prop := s.active = false ∧ s.resetIn = false

/-- Operation `i` is in flight, its checks done, and its next micro-operation is `m` (R149). -/
def InFlightAt (i : Instr) (m : MicroOp) (s : State) : Prop :=
  s.active = true ∧ s.issued = none ∧ isDriver i = true ∧ (microProgram i s)[s.ustep.toNat]? = some m

/-- `k` busy samples in a row do not reach the bound of a WAIT, if there is one (R144, R145). -/
def WaitOutlasts (c : Config) (k : Nat) : Prop := ∀ n, c.busyTimeoutPolls = some n → k < n

/-- The events of `k` samples of a WAIT that found busy asserted and did not end it (R140, R144). -/
def busyEvents (c : Config) (k : Nat) : List Event :=
  (List.replicate k [Event.busy true, Event.delay c.pay.tPoll]).flatten

/-- The eight events of a window sub-sequence whose transactions all succeed (R102, R148). -/
def windowEvents (c : Config) (xs xe ys ye : Nat) : List Event := [
  .cmd c.cmd.setXWindow .ok,
  .data [BitVec.ofNat 8 (xs / 8), BitVec.ofNat 8 (xe / 8)] .ok,
  .cmd c.cmd.setYWindow .ok,
  .data [BitVec.ofNat 8 (ys % 256), BitVec.ofNat 8 (ys / 256), BitVec.ofNat 8 (ye % 256), BitVec.ofNat 8 (ye / 256)] .ok,
  .cmd c.cmd.setXPointer .ok,
  .data [BitVec.ofNat 8 (xs / 8)] .ok,
  .cmd c.cmd.setYPointer .ok,
  .data [BitVec.ofNat 8 (ys % 256), BitVec.ofNat 8 (ys / 256)] .ok]

/-- The host's next action hands over `d`, with `q` to follow. -/
def Offers (d : Descriptor) (q : List HostAction) (s : State) : Prop := s.hostQueue = .issue d :: q

/-- The byte at address `a` lies in the part of the rectangle that lies in the framebuffer: row `a / FB_STRIDE`, pixel columns
from `8 * (a % FB_STRIDE)` (R61, R124, R129). -/
def insideRect (c : Config) (r : Rect) (a : Nat) : Prop :=
  a < c.fbSize ∧
  r.top ≤ (a / c.fbStride : Nat) ∧ ((a / c.fbStride : Nat) : Int) < r.top + r.height ∧
  r.left ≤ 8 * (a % c.fbStride : Nat) ∧ 8 * ((a % c.fbStride : Nat) : Int) < r.left + r.width

/-- The phase an operation in flight has, by its micro-step (R37). -/
def flightPhase (i : Instr) (k : Nat) (p : Phase) : Prop :=
  match i with
  | .clearAll => False
  | .clearRegion _ => False
  | .blit _ _ _ => False
  | .init => p = .resetting
  | .setAddressWindow _ _ _ _ => p.sessionReady = true
  | .enableMode _ => p.sessionReady = true
  | .transfer => p.sessionReady = true
  | .refresh => p = .refreshing
  | .setBorder _ => p.sessionReady = true
  | .clearDisplay => p = if k ≤ 9 then .modeEnabled else .refreshing

/-- What holds while the micro-program of operation `i` runs. -/
structure FlightInv (i : Instr) (s : State) : Prop where
  active   : s.active = true
  /-- Its checks are done (R160). -/
  checked  : s.issued = none
  /-- The operand registers hold it (R21, R22). -/
  latched  : decode (operandDescriptor s) = .op i
  driver   : isDriver i = true
  /-- `USTEP` is an index of its micro-program (R24, R149). -/
  inRange  : s.ustep.toNat < (microProgram i s).length
  phase    : flightPhase i s.ustep.toNat s.phase
  /-- The geometry check made at accept still holds (R160). -/
  geometry : geometryOf i s.cfg = true
  /-- `ERR <- 0` at accept (R94). -/
  noError  : s.err = none
  /-- `POLLS` is 0 outside a WAIT, and below the bound in one (R31, R145). -/
  polls    : s.polls ≠ 0 → (microProgram i s)[s.ustep.toNat]? = some .wait ∧
    ∃ n, s.cfg.busyTimeoutPolls = some n ∧ s.polls < n
  /-- The reset output is asserted between `RST(1)` and `RST(0)` of INITIALIZE and at no other time (R161, R209). -/
  resetOut : s.resetOut = true ↔ i = .init ∧ 1 ≤ s.ustep.toNat ∧ s.ustep.toNat ≤ 3

/-- What holds while no micro-program runs: the block is idle, or has just accepted a descriptor. -/
structure QuietInv (s : State) : Prop where
  /-- Resetting and Refreshing exist only while an operation is in flight (R169), its checks passed (R160). -/
  notResetting  : s.phase ≠ .resetting
  notRefreshing : s.phase ≠ .refreshing
  /-- `POLLS` is 0 outside a WAIT (R31). -/
  polls         : s.polls = 0
  /-- The reset output is released (R209). -/
  resetOut      : s.resetOut = false

/-- The invariant of the machine. -/
structure Inv (s : State) : Prop where
  fbWf      : s.fbMem.wf
  /-- Nothing is mapped in FB beyond `FB_SIZE - 1` (R73, R129). -/
  fbBound   : ∀ c ∈ s.fbMem, c.1 < s.cfg.fbSize
  srcWf     : s.src.wf
  srcBound  : ∀ c ∈ s.src, c.1 < 2 ^ 32
  /-- `PHASE` is ModeEnabled or Refreshing if and only if `MODE_VALID = 1` (R28). -/
  modePhase : (s.phase = .modeEnabled ∨ s.phase = .refreshing) ↔ s.modeValid = true
  /-- A window in force has X within one byte's reach (R102, R148). -/
  window    : s.awValid = true → s.awXStart.toNat ≤ 2047 ∧ s.awXEnd.toNat ≤ 2047
  idle      : s.active = false → s.issued = none ∧ QuietInv s
  /-- Between accept and the checks: the operand registers hold the descriptor, `USTEP` and `ERR` are 0 (R94). -/
  accepted  : ∀ d, s.active = true → s.issued = some d → accept d s = s ∧ QuietInv s
  flight    : s.active = true → s.issued = none → ∃ i, FlightInv i s

/-- A run that never stops: for every number of steps the machine answers a next state. -/
def RunsForever (s : State) : Prop := ∀ n, ∃ t, runFor n s = .next t

end Sys2Proof.Machine
end

