-- ==== Sys2Proof/Certificates/Slice0/Obligations.lean ====
section
/-! DEFINITION. The statements for the provers. Each docstring names the rule of spec/ it formalises. -/

open Sys2Proof Sys2Proof.Machine

/-! ### Encoding (spec/30_encoding.md) -/

/-- R105. The encoder writes `OPC` and `F` into `W0`, the reserved bits 0, the operands into their fields, and 0 into every
field the operation does not use; decoding an encoded operation with in-range operands gives it back; re-encoding a
decoded descriptor gives the descriptor exactly when it is canonical. -/
def Obligations.DecodeAndEncodeAgree : Prop :=
  (∀ i : Instr, (encode i).opc = i.opc ∧ (encode i).reserved = 0#23 ∧ (encode i).canonicalFor i = true ∧
    (encode i).flag = (match i with | .enableMode m => flagOfMode m | .setBorder w => w | _ => false)) ∧
  (∀ (base len : Nat) (r : Rect), (encode (.blit base len r)).w3 = BitVec.ofNat 32 base ∧
    (encode (.blit base len r)).w4 = BitVec.ofNat 32 len ∧
    ∀ d, d = encode (.blit base len r) ∨ d = encode (.clearRegion r) →
      d.a0 = BitVec.ofInt 16 r.left ∧ d.a1 = BitVec.ofInt 16 r.top ∧ d.a2 = BitVec.ofInt 16 r.width ∧
      d.a3 = BitVec.ofInt 16 r.height) ∧
  (∀ xs xe ys ye : Int, (encode (.setAddressWindow xs xe ys ye)).a0 = BitVec.ofInt 16 xs ∧
    (encode (.setAddressWindow xs xe ys ye)).a1 = BitVec.ofInt 16 xe ∧
    (encode (.setAddressWindow xs xe ys ye)).a2 = BitVec.ofInt 16 ys ∧
    (encode (.setAddressWindow xs xe ys ye)).a3 = BitVec.ofInt 16 ye) ∧
  (∀ i : Instr, i.wellFormed = true → decode (encode i) = .op i) ∧
  (∀ (d : Descriptor) (i : Instr), decode d = .op i → (encode i = d ↔ d.canonicalFor i = true))

/-- R95. A descriptor selects an operation when `(W0 AND mask) = match` for its row of R96; the rows are disjoint; a
descriptor no row selects is illegal; `W1` to `W4` take no part. -/
def Obligations.DecodeSelectsByMaskAndMatch : Prop :=
  (∀ (d : Descriptor) (row : OpcodeRow), row ∈ opcodeTable → row.selects d.w0 = true →
    ∃ i, decode d = .op i ∧ i.mnemonic = row.mnemonic) ∧
  (∀ (d : Descriptor) (i : Instr), decode d = .op i →
    ∃ row ∈ opcodeTable, row.selects d.w0 = true ∧ row.mnemonic = i.mnemonic) ∧
  (∀ (w0 : Word) (row row' : OpcodeRow), row ∈ opcodeTable → row' ∈ opcodeTable →
    row.selects w0 = true → row'.selects w0 = true → row = row') ∧
  (∀ d : Descriptor, (∀ row ∈ opcodeTable, row.selects d.w0 = false) → ∃ why, decode d = .illegal why)

/-- R98 (with R195, R196). A descriptor is illegal exactly when a reserved bit is set, the opcode is none of the ten, or `F` is
set where it is not used; and an illegal descriptor handed to the idle block ends at once with IllegalOperation, in the
step after its accept: nothing but `STATUS`, the operand registers and accept's `USTEP` changes, no event is added. That the
end is exactly the step after accept is log 4 (DEDUCED), that the host is a list of actions is log 2 (DESIGN CHOICE). -/
def Obligations.IllegalDescriptorEndsAtOnce : Prop :=
  (∀ d : Descriptor, (∃ why, decode d = .illegal why) ↔
    (d.reserved ≠ 0#23 ∨
     d.opc ∉ [0x01#8, 0x02#8, 0x03#8, 0x10#8, 0x11#8, 0x12#8, 0x13#8, 0x14#8, 0x15#8, 0x16#8] ∨
     (d.flag = true ∧ d.opc ≠ 0x12#8 ∧ d.opc ≠ 0x15#8))) ∧
  (∀ (s : State) (d : Descriptor) (q : List HostAction) (why : IllegalReason),
    Idle s → Offers d q s → s.polls = 0 → decode d = .illegal why →
    runFor 2 s = .next { s with
      hostQueue := q, opc := d.opc, f := d.flag, a0 := d.a0, a1 := d.a1, a2 := d.a2, a3 := d.a3,
      srcBase := d.w3, srcLen := d.w4, ustep := 0, err := some .illegalOperation, issued := none })

/-- R97. Operand words an operation does not use are ignored: descriptors that agree on `W0` and on the fields the operation
uses decode alike; `F` must be 0 for the eight operations that do not use it; the assembler writes 0. -/
def Obligations.UnusedFieldsAreIgnored : Prop :=
  (∀ d e : Descriptor, d.w0 = e.w0 →
    (d.opc = 0x02#8 ∨ d.opc = 0x03#8 ∨ d.opc = 0x11#8 → d.w1 = e.w1 ∧ d.w2 = e.w2) →
    (d.opc = 0x03#8 → d.w3 = e.w3 ∧ d.w4 = e.w4) → decode d = decode e) ∧
  (∀ d : Descriptor, d.flag = true → d.opc ≠ 0x12#8 → d.opc ≠ 0x15#8 → ∃ why, decode d = .illegal why) ∧
  (∀ i : Instr, (encode i).canonicalFor i = true)

/-- R93. The memory image is 20 bytes, `W0` first, each word least significant byte first, and it is read back as the
descriptor; the rule's example. -/
def Obligations.MemoryImageIsLittleEndian : Prop :=
  (∀ d : Descriptor, d.toBytes.length = 20 ∧ Descriptor.ofBytes d.toBytes = some d ∧
    ∀ j < 4,
      d.toBytes[j]? = some (d.w0.extractLsb' (8 * j) 8) ∧ d.toBytes[4 + j]? = some (d.w1.extractLsb' (8 * j) 8) ∧
      d.toBytes[8 + j]? = some (d.w2.extractLsb' (8 * j) 8) ∧ d.toBytes[12 + j]? = some (d.w3.extractLsb' (8 * j) 8) ∧
      d.toBytes[16 + j]? = some (d.w4.extractLsb' (8 * j) 8)) ∧
  encode (.blit 0x20001000 512 ⟨-32, 0, 64, 64⟩) = ⟨0x00000003, 0x0000FFE0, 0x00400040, 0x20001000, 0x00000200⟩ ∧
  (encode (.blit 0x20001000 512 ⟨-32, 0, 64, 64⟩)).toBytes =
    [0x03, 0x00, 0x00, 0x00, 0xE0, 0xFF, 0x00, 0x00, 0x40, 0x00, 0x40, 0x00, 0x00, 0x10, 0x00, 0x20, 0x00, 0x02, 0x00, 0x00]

/-- spec/95_test_vectors.md V1 and V2: words written out from the encoding decode to the operation they stand for. -/
def Obligations.WordsOfTheTableDecode : Prop :=
  decode ⟨0x00000001, 0, 0, 0, 0⟩ = .op .clearAll ∧
  decode ⟨0x00000002, 0xFFFFFFF8, 0x00030018, 0, 0⟩ = .op (.clearRegion ⟨-8, -1, 24, 3⟩) ∧
  decode ⟨0x00000003, 0x0001FFF8, 0x00020010, 0x00001000, 0x00000004⟩ = .op (.blit 0x1000 4 ⟨-8, 1, 16, 2⟩) ∧
  decode ⟨0x00000010, 0, 0, 0, 0⟩ = .op .init ∧
  decode ⟨0x00000011, 0x00870008, 0x01AB012C, 0, 0⟩ = .op (.setAddressWindow 8 135 300 427) ∧
  decode ⟨0x00000112, 0, 0, 0, 0⟩ = .op (.enableMode .mode2) ∧
  decode ⟨0x00000012, 0, 0x00010001, 0, 0⟩ = .op (.enableMode .mode1) ∧
  decode ⟨0x00000013, 0, 0, 0, 0⟩ = .op .transfer ∧
  decode ⟨0x00000014, 0, 0, 0xFFFFFFFF, 0⟩ = .op .refresh ∧
  decode ⟨0x00000115, 0, 0, 0, 0⟩ = .op (.setBorder true) ∧
  decode ⟨0x00000016, 0, 0, 0, 0⟩ = .op .clearDisplay ∧
  decode ⟨0x00000113, 0, 0, 0, 0⟩ = .illegal .flagNotUsed ∧
  decode ⟨0x80000012, 0, 0, 0, 0⟩ = .illegal .reservedBitsSet ∧
  decode ⟨0x00000000, 0, 0, 0, 0⟩ = .illegal .unknownOpcode

/-! ### The step (spec/00_scope.md R7, spec/30_encoding.md R94, spec/70_reset_and_hazards.md) -/

/-- A step runs the decoded operation: an idle block accepts the descriptor the host offers in one step, and the next step is the
step of the operation it decodes to; once its checks are done a step is the next step of the operation the operand registers
hold. -/
def Obligations.StepRunsTheDecodedOperation : Prop :=
  (∀ (s : State) (d : Descriptor) (q : List HostAction) (i : Instr),
    Idle s → Offers d q s → decode d = .op i →
    step s = .next (accept d { s with hostQueue := q }) ∧
    step (accept d { s with hostQueue := q }) = exec i (accept d { s with hostQueue := q })) ∧
  (∀ (s : State) (i : Instr), s.resetIn = false → s.active = true → s.issued = none →
    decode (operandDescriptor s) = .op i → step s = exec i s)

/-- R94. Accept, in one step: every operand register, `USTEP`, `ERR` and `ACTIVE` as the rule says, and nothing else of the block.
The next step decodes and runs the checks of R198, phase before geometry, before anything else. While `ACTIVE = 1` the host
port takes no descriptor (the host has no step), and the operand registers keep the whole descriptor that was issued. That
decode, and the end by a failed check, fall into exactly the step after accept is log 4 (DEDUCED); that an offer stays in the
host's list while `ACTIVE = 1` is log 2 (DESIGN CHOICE). -/
def Obligations.DescriptorIsLatchedWholeAndHeld : Prop :=
  (∀ (s : State) (d : Descriptor) (q : List HostAction), Idle s → Offers d q s → ∃ t, step s = .next t ∧
    t = { s with
      opc := d.w0.extractLsb' 0 8, f := d.w0.getLsbD 8, a0 := d.w1.extractLsb' 0 16, a1 := d.w1.extractLsb' 16 16,
      a2 := d.w2.extractLsb' 0 16, a3 := d.w2.extractLsb' 16 16, srcBase := d.w3, srcLen := d.w4,
      ustep := 0, err := none, active := true, hostQueue := t.hostQueue, issued := t.issued } ∧
    step t = (match decode d with
      | .op i => exec i t
      | .illegal _ => .next (raise .illegalOperation t)) ∧
    (∀ i, decode d = .op i → decode (operandDescriptor t) = .op i ∧
      (phaseValidFor i t.phase = false → step t = .next (raise .protocolStateError t)) ∧
      (phaseValidFor i t.phase = true → geometryOf i t.cfg = false → step t = .next (raise .invalidGeometry t)) ∧
      (∀ r, i = .clearRegion r → rectValid r = false → step t = .next (raise .invalidGeometry t)) ∧
      (∀ base len r, i = .blit base len r → (rectValid r && sourceValid base len r) = false →
        step t = .next (raise .invalidGeometry t)))) ∧
  (∀ (s t : State), s.resetIn = false → s.active = true → step s = .next t →
    t.hostQueue = s.hostQueue ∧ operandDescriptor t = operandDescriptor s)

/-- R26. `STATUS.ACTIVE` is 1 from accept until the operation ends, `STATUS.ERR` is written at accept (to 0) and at the end, and at
no other step: an idle block becomes active exactly when a descriptor is handed over, and then reads `STATUS = 1`; a step of
an operation that goes on leaves `ERR`; a framebuffer operation and an illegal descriptor end in the step after accept. -/
def Obligations.ActiveFromAcceptToTheEnd : Prop :=
  ∀ s t : State, s.resetIn = false → step s = .next t →
    (s.active = false →
      (t.active = true ↔ ∃ d q, s.hostQueue = .issue d :: q ∨ s.hostQueue = .issueIfOk d :: q ∧ s.err = none) ∧
      (t.active = true → hostRead t 0 = 1#32) ∧ (t.active = false → t.err = s.err)) ∧
    (s.active = true →
      (t.active = true → t.err = s.err) ∧
      (∀ i, current s = .op i → isDriver i = false → t.active = false ∧ (t.err = none ∨ t.err = some .invalidGeometry)) ∧
      (∀ why, current s = .illegal why → t.active = false ∧ t.err = some .illegalOperation))

/-- R220. Block reset, at any moment: every register R38 gives a value has it, TRACE is empty, no transaction and no busy
sample is made (no answer of the environment is consumed), and the block is idle. -/
def Obligations.BlockResetFromAnyState : Prop :=
  ∀ s : State, s.resetIn = true → ∃ t, step s = .next t ∧
    t.phase = .uninitialized ∧ t.active = false ∧ t.err = none ∧ t.ustep = 0 ∧ t.polls = 0 ∧ t.resetOut = false ∧
    t.modeValid = false ∧ t.borderValid = false ∧ t.awValid = false ∧ t.trace = [] ∧
    t.busIn = s.busIn ∧ t.busyIn = s.busyIn ∧ t.draws = s.draws

/-- The model's form of block reset (log 9, DESIGN CHOICE): the step that finds it asserted releases it, and the configuration,
the host's memory and the host's list stay; a descriptor accepted before is forgotten. With an empty list the block then waits:
a step changes nothing (log 14, DESIGN CHOICE). No rule of the spec states these clauses. -/
def Obligations.BlockResetLeavesTheOutsideAlone : Prop :=
  ∀ s : State, s.resetIn = true → ∃ t, step s = .next t ∧
    t.resetIn = false ∧ t.issued = none ∧ t.cfg = s.cfg ∧ t.src = s.src ∧ t.hostQueue = s.hostQueue ∧
    (s.hostQueue = [] → step t = .next t)

/-- R222, R38: the framebuffer's contents after a block reset are unspecified, which the model says as a free value per byte and
per reset (the model's form, log 5): nothing written before is kept. -/
def Obligations.BlockResetForgetsTheFramebuffer : Prop :=
  ∀ s : State, s.resetIn = true → ∃ t, step s = .next t ∧ t.epoch = s.epoch + 1 ∧
    ∀ a, readFb t a = Config.freeFbByte t.epoch a

/-- R38. The values the spec states for reset. -/
def Obligations.ResetStateHasTheStatedValues : Prop :=
  State.reset.ustep = 0 ∧ State.reset.active = false ∧ State.reset.err = none ∧ State.reset.phase = .uninitialized ∧
  State.reset.modeValid = false ∧ State.reset.borderValid = false ∧ State.reset.awValid = false ∧
  State.reset.polls = 0 ∧ State.reset.resetOut = false ∧
  hostRead State.reset 0 = 0 ∧ hostRead State.reset 1 = 0 ∧ hostRead State.reset 6 = 0 ∧ hostRead State.reset 7 = 0

/-- R36, R60, R8. No step changes the configuration; only the host's own store changes the source memory; only the three
operations of the framebuffer unit (and block reset) change `FB_MEM`. That the host's store is an action of its list and one
step of an idle block that writes exactly one byte is the model's choice (logs 2 and 8, DESIGN CHOICE), not the spec's. -/
def Obligations.WhoWritesWhichMemory : Prop :=
  ∀ s t : State, step s = .next t →
    t.cfg = s.cfg ∧
    ((∀ a v q, s.hostQueue ≠ .store a v :: q) ∨ s.active = true ∨ s.resetIn = true → t.src = s.src) ∧
    (∀ a v q, Idle s → s.hostQueue = .store a v :: q →
      t = { s with hostQueue := q, src := s.src.write a.toNat v }) ∧
    (Idle s → t.fbMem = s.fbMem) ∧
    (s.resetIn = false → s.active = true → (∀ i, current s = .op i → isDriver i = true) → t.fbMem = s.fbMem)

/-- R104. The second half of `SHOW` is not issued when the operation before it ended with an error, and is issued like any
descriptor when it ended well. -/
def Obligations.ShowStopsAfterAnError : Prop :=
  ∀ (s : State) (d : Descriptor) (q : List HostAction), Idle s → s.hostQueue = .issueIfOk d :: q →
    (s.err ≠ none → step s = .next { s with hostQueue := q }) ∧
    (s.err = none → step s = step { s with hostQueue := .issue d :: q })

/-! ### The framebuffer unit (spec/40_framebuffer_ops.md) -/

/-- R120. The framebuffer operations run to their end in one step (the one after accept), in every state; they change `FB_MEM`
and `STATUS` only (no event, no answer of the environment consumed); they end in OK or InvalidGeometry, and what they do
depends on the configuration, `FB_MEM` and `SRC` only. -/
def Obligations.FramebufferUnitTouchesOnlyTheFramebuffer : Prop :=
  ∀ (i : Instr) (s : State), isDriver i = false →
    ∃ t, exec i s = .next t ∧
      t = { s with fbMem := t.fbMem, err := t.err, active := false, polls := 0, issued := none } ∧
      (t.err = none ∨ t.err = some .invalidGeometry) ∧
      (∀ s' t' : State, s'.cfg = s.cfg → s'.fbMem = s.fbMem → s'.src = s.src → exec i s' = .next t' →
        t'.fbMem = t.fbMem ∧ t'.err = t.err)

/-- R121. CLEAR_ALL (`W0 = 1`) succeeds in every state, sets every byte of `FB_MEM` (every bit of every byte) to one, and
changes nothing else but `STATUS`. -/
def Obligations.ClearAllSetsEveryBit : Prop :=
  (∀ d : Descriptor, d.w0 = 0x00000001#32 → decode d = .op .clearAll) ∧
  ∀ s : State, ∃ t, exec .clearAll s = .next t ∧
    t = { s with fbMem := t.fbMem, err := none, active := false, polls := 0, issued := none } ∧
    (∀ a < s.cfg.fbSize, readFb t a = 0xFF#8 ∧ ∀ b < 8, (readFb t a).getLsbD b = true) ∧
    (∀ a, s.cfg.fbSize ≤ a → Memory.lookup a t.fbMem = Memory.lookup a s.fbMem)

/-- R124. CLEAR_REGION (`W0 = 2`): a rectangle that is not valid gives InvalidGeometry and changes no byte; a valid one sets exactly the bytes
of the rectangle that lie in the framebuffer and leaves every other byte. -/
def Obligations.ClearRegionFillsTheClippedRectangle : Prop :=
  (∀ d : Descriptor, d.w0 = 0x00000002#32 →
    decode d = .op (.clearRegion ⟨d.a0.toInt, d.a1.toInt, d.a2.toInt, d.a3.toInt⟩)) ∧
  ∀ (s : State) (r : Rect),
    (rectValid r = false → exec (.clearRegion r) s =
      .next { s with err := some .invalidGeometry, active := false, polls := 0, issued := none }) ∧
    (rectValid r = true → ∃ t, exec (.clearRegion r) s = .next t ∧
      t = { s with fbMem := t.fbMem, err := none, active := false, polls := 0, issued := none } ∧
      (∀ a, insideRect s.cfg r a → readFb t a = 0xFF#8) ∧
      (∀ a, ¬ insideRect s.cfg r a → readFb t a = readFb s a))

/-- The source's property (spec/95_test_vectors.md E2) at the level of pixels: CLEAR_REGION makes exactly the pixels of the
rectangle white. The place of a pixel in its byte is R64's (the spec marks it general knowledge, G1). -/
def Obligations.ClearRegionWhitensExactlyThePixels : Prop :=
  ∀ (s : State) (r : Rect), rectValid r = true → ∃ t, exec (.clearRegion r) s = .next t ∧
    ∀ x y : Nat, x < s.cfg.fbW → y < s.cfg.fbH →
      ((r.left ≤ x ∧ x < r.left + r.width ∧ r.top ≤ y ∧ y < r.top + r.height) → readPixel t x y = true) ∧
      (¬ (r.left ≤ x ∧ x < r.left + r.width ∧ r.top ≤ y ∧ y < r.top + r.height) → readPixel t x y = readPixel s x y)

/-- R124's corner case: "A rectangle that covers the whole buffer or more equals CLEAR_ALL". -/
def Obligations.CoveringRectangleEqualsClearAll : Prop :=
  ∀ (s : State) (r : Rect), rectValid r = true → r.left ≤ 0 → r.top ≤ 0 →
    (s.cfg.fbW : Int) ≤ r.left + r.width → (s.cfg.fbH : Int) ≤ r.top + r.height →
    exec (.clearRegion r) s = exec .clearAll s

/-- R124, R127, corner cases (E6): a valid rectangle wholly outside the buffer, or empty, is a no-op that succeeds. -/
def Obligations.OutsideRectangleIsNoOp : Prop :=
  ∀ (s : State) (r : Rect), rectValid r = true →
    (s.cfg.fbW : Int) ≤ r.left ∨ (s.cfg.fbH : Int) ≤ r.top ∨ r.left + r.width ≤ 0 ∨ r.top + r.height ≤ 0 ∨
      r.width = 0 ∨ r.height = 0 →
    exec (.clearRegion r) s = .next { s with err := none, active := false, polls := 0, issued := none } ∧
    ∀ base len : Nat, sourceValid base len r = true →
      exec (.blit base len r) s = .next { s with err := none, active := false, polls := 0, issued := none }

/-- R122, R123. Operands that are not `RectValid`: InvalidGeometry and nothing else, for CLEAR_REGION and BLIT. -/
def Obligations.UnalignedOrNegativeRectangleIsRejected : Prop :=
  ∀ (s : State) (r : Rect) (base len : Nat),
    ¬ (r.width ≥ 0 ∧ r.height ≥ 0 ∧ (8 : Int) ∣ r.left ∧ (8 : Int) ∣ r.width) →
    exec (.clearRegion r) s = .next { s with err := some .invalidGeometry, active := false, polls := 0, issued := none } ∧
    exec (.blit base len r) s = .next { s with err := some .invalidGeometry, active := false, polls := 0, issued := none }

/-- R125. A BLIT whose source is too short for the unclipped rectangle, or runs past the 32-bit space, is InvalidGeometry and
changes nothing; a longer source is legal and its extra bytes are never read; `need` fits in 27 bits. -/
def Obligations.BlitSourceIsCheckedUnclipped : Prop :=
  (∀ (s : State) (r : Rect) (base len : Nat), rectValid r = true →
    ((len : Int) < r.height * (r.width / 8) ∨ base + len > 2 ^ 32) →
    exec (.blit base len r) s = .next { s with err := some .invalidGeometry, active := false, polls := 0, issued := none }) ∧
  (∀ (s s' : State) (r : Rect) (base len : Nat), rectValid r = true →
    r.height * (r.width / 8) ≤ len → base + len ≤ 2 ^ 32 →
    s'.cfg = s.cfg → s'.fbMem = s.fbMem →
    (∀ a : Nat, base ≤ a → (a : Int) < base + r.height * (r.width / 8) → readSrc s' a = readSrc s a) →
    ∃ t t', exec (.blit base len r) s = .next t ∧ exec (.blit base len r) s' = .next t' ∧ t.err = none ∧ t'.err = none ∧
      t'.fbMem = t.fbMem) ∧
  (∀ r : Rect, r.wellFormed = true → rectValid r = true →
    r.height * (r.width / 8) ≤ 32767 * 4095 ∧ r.height * (r.width / 8) < 2 ^ 27)

/-- R126. The four adjustments and the closed form agree, and the results are multiples of 8. -/
def Obligations.BlitClippingHasItsClosedForm : Prop :=
  ∀ (c : Config) (r : Rect), rectValid r = true →
    (blitClip c r).dx = max r.left 0 ∧
    (blitClip c r).ew = min (r.left + r.width) c.fbW - max r.left 0 ∧
    (blitClip c r).sx = (max r.left 0 - r.left) / 8 ∧
    (blitClip c r).dy = max r.top 0 ∧
    (blitClip c r).eh = min (r.top + r.height) c.fbH - max r.top 0 ∧
    (blitClip c r).sy = max r.top 0 - r.top ∧
    (8 : Int) ∣ (blitClip c r).ew ∧ (8 : Int) ∣ (blitClip c r).dx ∧ max r.left 0 - r.left = 8 * (blitClip c r).sx

/-- R127, with the two strides of R128. BLIT (`W0 = 3`): every byte of the rectangle that lies in the framebuffer becomes the source byte
at the same place of the source image (row stride `width/8`, the unclipped width), every other byte keeps its value;
InvalidGeometry by the three checks, with nothing changed. -/
def Obligations.BlitCopiesTheClippedSource : Prop :=
  (∀ d : Descriptor, d.w0 = 0x00000003#32 →
    decode d = .op (.blit d.w3.toNat d.w4.toNat ⟨d.a0.toInt, d.a1.toInt, d.a2.toInt, d.a3.toInt⟩)) ∧
  ∀ (s : State) (r : Rect) (base len : Nat),
    (¬ (rectValid r = true ∧ r.height * (r.width / 8) ≤ len ∧ base + len ≤ 2 ^ 32) →
      exec (.blit base len r) s = .next { s with err := some .invalidGeometry, active := false, polls := 0, issued := none }) ∧
    (rectValid r = true → r.height * (r.width / 8) ≤ len → base + len ≤ 2 ^ 32 →
      ∃ t, exec (.blit base len r) s = .next t ∧
        t = { s with fbMem := t.fbMem, err := none, active := false, polls := 0, issued := none } ∧
        (∀ a, insideRect s.cfg r a → readFb t a =
          readSrc s (base + (((a / s.cfg.fbStride : Nat) - r.top) * (r.width / 8)
            + ((a % s.cfg.fbStride : Nat) - r.left / 8)).toNat)) ∧
        (∀ a, ¬ insideRect s.cfg r a → readFb t a = readFb s a))

/-- R129. Every byte a BLIT or a CLEAR_REGION moves: the framebuffer address lies within the buffer, in the rows and byte columns
of the clipped rectangle; the source index lies within the bytes the rectangle needs. -/
def Obligations.BlitAndFillStayInBounds : Prop :=
  ∀ (c : Config) (r : Rect), rectValid r = true →
    (∀ a ∈ regionAddrs c r, insideRect c r a) ∧
    (∀ (base len : Nat), sourceValid base len r = true → 0 < (blitClip c r).ew → 0 < (blitClip c r).eh →
      0 ≤ (blitClip c r).dx ∧ (blitClip c r).dx + (blitClip c r).ew ≤ c.fbW ∧
      0 ≤ (blitClip c r).dy ∧ (blitClip c r).dy + (blitClip c r).eh ≤ c.fbH ∧
      8 * (blitClip c r).sx + (blitClip c r).ew ≤ r.width ∧ (blitClip c r).sy + (blitClip c r).eh ≤ r.height ∧
      ∀ m ∈ blitMoves c base r,
        m.1 < c.fbSize ∧
        (blitClip c r).dy ≤ (m.1 / c.fbStride : Nat) ∧
        ((m.1 / c.fbStride : Nat) : Int) < (blitClip c r).dy + (blitClip c r).eh ∧
        (blitClip c r).dx / 8 ≤ (m.1 % c.fbStride : Nat) ∧
        ((m.1 % c.fbStride : Nat) : Int) ≤ ((blitClip c r).dx + (blitClip c r).ew) / 8 - 1 ∧
        base ≤ m.2 ∧ ((m.2 - base : Nat) : Int) < r.height * (r.width / 8) ∧ r.height * (r.width / 8) ≤ len)

/-- R130. One operation writes each framebuffer address once, so the bytes may be written in any order. -/
def Obligations.EachFramebufferAddressIsWrittenOnce : Prop :=
  ∀ (c : Config) (r : Rect) (base : Nat) (value : Nat → Byte) (m : Memory), rectValid r = true → m.wf →
    ∀ ws, ws = (allAddrs c).map (fun a => (a, 0xFF#8)) ∨ ws = (regionAddrs c r).map (fun a => (a, 0xFF#8)) ∨
        ws = (blitMoves c base r).map (fun p => (p.1, value p.2)) →
      (ws.map Prod.fst).Nodup ∧ ∀ ws' : List (Nat × Byte), ws'.Perm ws → m.writeAll ws' = m.writeAll ws

/-- R131. The framebuffer operations are idempotent: issued again they leave the state they left before. The premise is the
canonical form of the memory, kept by every step (`StepKeepsTheInvariant`). -/
def Obligations.FramebufferOperationsAreIdempotent : Prop :=
  ∀ (i : Instr) (s t : State), isDriver i = false → s.fbMem.wf → exec i s = .next t → exec i t = .next t

/-! ### Checks of the driver operations (spec/42_driver_ops.md R160, R169; spec/60_exceptions.md R198) -/

/-- R169. The valid phases at accept, operation by operation; the framebuffer operations are valid in any phase. The checks are made
in the step after accept (log 4, DEDUCED). -/
def Obligations.PhaseTableAtAccept : Prop :=
  ∀ (s : State) (d : Descriptor), s.active = true → s.issued = some d →
    let rejected : Result :=
      .next { s with err := some .protocolStateError, polls := 0, active := false, issued := none }
    (exec .init s = rejected ↔ s.phase ≠ .uninitialized) ∧
    (∀ xs xe ys ye, exec (.setAddressWindow xs xe ys ye) s = rejected ↔ s.phase ≠ .initialized ∧ s.phase ≠ .modeEnabled) ∧
    (∀ m, exec (.enableMode m) s = rejected ↔ s.phase ≠ .initialized ∧ s.phase ≠ .modeEnabled) ∧
    (exec .transfer s = rejected ↔ s.phase ≠ .initialized ∧ s.phase ≠ .modeEnabled) ∧
    (exec .refresh s = rejected ↔ s.phase ≠ .modeEnabled) ∧
    (∀ w, exec (.setBorder w) s = rejected ↔ s.phase ≠ .initialized ∧ s.phase ≠ .modeEnabled) ∧
    (exec .clearDisplay s = rejected ↔ s.phase ≠ .modeEnabled) ∧
    (∀ i t, isDriver i = false → exec i s = .next t → t.err ≠ some .protocolStateError)

/-- R163, R165, R198. In a valid phase the geometry check decides: SET_ADDRESS_WINDOW with a negative operand or an X operand
beyond 2047, TRANSFER of an empty framebuffer, end in InvalidGeometry with nothing else changed; otherwise the checks are
passed. That passing them is a step of its own, which changes nothing else, the micro-program starting with the next step, is
the model's choice (log 4, DESIGN CHOICE). -/
def Obligations.GeometryIsCheckedAfterThePhase : Prop :=
  ∀ (s : State) (d : Descriptor), s.issued = some d → (s.phase = .initialized ∨ s.phase = .modeEnabled) →
    (∀ xs xe ys ye : Int, ¬ (0 ≤ xs ∧ xs ≤ 2047 ∧ 0 ≤ xe ∧ xe ≤ 2047 ∧ 0 ≤ ys ∧ 0 ≤ ye) →
      exec (.setAddressWindow xs xe ys ye) s =
        .next { s with err := some .invalidGeometry, polls := 0, active := false, issued := none }) ∧
    (∀ xs xe ys ye : Int, 0 ≤ xs → xs ≤ 2047 → 0 ≤ xe → xe ≤ 2047 → 0 ≤ ys → 0 ≤ ye →
      exec (.setAddressWindow xs xe ys ye) s = .next { s with issued := none }) ∧
    (s.cfg.fbSize = 0 → exec .transfer s =
      .next { s with err := some .invalidGeometry, polls := 0, active := false, issued := none }) ∧
    (s.cfg.fbSize ≠ 0 → exec .transfer s = .next { s with issued := none })

/-- R160, step 4; R37. The state updates attached to accept of the other driver operations, made when their checks have passed, in
their valid phases. That they are made in one step with the checks, a step of its own, the micro-program starting with the next
step, is the model's choice (log 4, DESIGN CHOICE); the values are the rules'. -/
def Obligations.AcceptStartsTheOperation : Prop :=
  ∀ (s : State) (d : Descriptor), s.issued = some d →
    (s.phase = .uninitialized → exec .init s =
      .next { s with issued := none, phase := .resetting, awValid := false, modeValid := false, borderValid := false }) ∧
    (s.phase = .initialized ∨ s.phase = .modeEnabled →
      (∀ m, exec (.enableMode m) s = .next { s with issued := none }) ∧
      (∀ w, exec (.setBorder w) s = .next { s with issued := none })) ∧
    (s.phase = .modeEnabled →
      exec .refresh s = .next { s with issued := none, phase := .refreshing } ∧
      exec .clearDisplay s = .next { s with issued := none })

/-! ### Micro-operations (spec/41_bus_primitives.md) -/

/-- R141, R142. A transaction of any driver operation in flight: one event with the environment's answer; on `ok` the counter
advances (and the operation ends if this was its last micro-operation), on `fail` the operation ends with TransportError,
the counter keeping the index of the failed micro-operation. -/
def Obligations.TransactionSucceedsOrEndsTheOperation : Prop :=
  ∀ (i : Instr) (m : MicroOp) (ev : BusResult → Event) (s : State), InFlightAt i m s →
    ((∃ b, m = .cmd b ∧ ev = Event.cmd b) ∨ (∃ bs, m = .data bs ∧ ev = Event.data bs)) →
    (nextBus s = .ok → ∃ t, exec i s = .next t ∧
      t = { afterBus s with
        trace := s.trace ++ [ev .ok], ustep := s.ustep + 1, active := t.active, err := t.err, polls := t.polls,
        phase := t.phase, mode := t.mode, modeValid := t.modeValid, borderWhite := t.borderWhite,
        borderValid := t.borderValid, awXStart := t.awXStart, awXEnd := t.awXEnd, awYStart := t.awYStart,
        awYEnd := t.awYEnd, awValid := t.awValid } ∧
      (s.ustep.toNat + 1 < (microProgram i s).length → t.active = true ∧ t.err = s.err ∧ t.polls = s.polls) ∧
      (s.ustep.toNat + 1 = (microProgram i s).length → t.active = false ∧ t.err = none ∧ t.polls = 0)) ∧
    (nextBus s = .fail → exec i s = .next { afterBus s with
        trace := s.trace ++ [ev .fail], err := some .transportError, phase := .uninitialized,
        modeValid := false, awValid := false, borderValid := false, polls := 0, active := false })

/-- R144. A sample of a WAIT in the baseline: level 1 changes nothing but TRACE (a `Busy(1)` and a `Delay`); level 0 advances. -/
def Obligations.BaselineWaitTakesOneSample : Prop :=
  ∀ (i : Instr) (s : State), InFlightAt i .wait s → s.cfg.busyTimeoutPolls = none →
    (nextBusy s = true → exec i s = .next { afterBusy s with
      trace := s.trace ++ [.busy true, .delay s.cfg.pay.tPoll] }) ∧
    (nextBusy s = false → ∃ t, exec i s = .next t ∧
      t = { afterBusy s with
        trace := s.trace ++ [.busy false], ustep := s.ustep + 1, active := t.active, err := t.err, polls := t.polls,
        phase := t.phase, mode := t.mode, modeValid := t.modeValid } ∧
      (s.ustep.toNat + 1 < (microProgram i s).length → t.active = true ∧ t.err = s.err ∧ t.phase = s.phase) ∧
      (s.ustep.toNat + 1 = (microProgram i s).length → t.active = false ∧ t.err = none ∧ t.polls = 0))

/-- R145. A WAIT with a bound `n`: BusyTimeout exactly when `n` samples in a row found busy asserted; with fewer, the first
clear sample advances. -/
def Obligations.BoundedWaitTimesOutAfterExactlyNSamples : Prop :=
  ∀ (i : Instr) (s : State) (n : Nat), FlightInv i s → (microProgram i s)[s.ustep.toNat]? = some .wait →
    s.resetIn = false → s.polls = 0 → s.cfg.busyTimeoutPolls = some n →
    (∀ rest, s.busyIn = List.replicate n true ++ rest →
      runFor n s = .next { s with
        busyIn := rest, trace := s.trace ++ busyEvents s.cfg (n - 1) ++ [.busy true],
        err := some .busyTimeout, phase := .uninitialized, modeValid := false, awValid := false, borderValid := false,
        active := false }) ∧
    (∀ k rest, k < n → s.busyIn = List.replicate k true ++ false :: rest →
      ∃ t, runFor (k + 1) s = .next t ∧ t.err = none ∧ t.ustep = s.ustep + 1 ∧ t.polls = 0 ∧ t.busyIn = rest ∧
        t.trace = s.trace ++ busyEvents s.cfg k ++ [.busy false])

/-- R146, R147. `RST(v)` drives the reset output and `DELAY(T)` lets time pass: each adds its event and advances; neither fails. -/
def Obligations.ResetPulseAndDelayCannotFail : Prop :=
  ∀ (i : Instr) (s : State),
    (∀ v, InFlightAt i (.rst v) s → exec i s =
      .next { s with resetOut := v, trace := s.trace ++ [.rst v], ustep := s.ustep + 1 }) ∧
    (∀ d, InFlightAt i (.delay d) s → exec i s =
      .next { s with trace := s.trace ++ [.delay d], ustep := s.ustep + 1 })

/-- R212. The hang of the baseline: however many samples find busy asserted, the operation neither completes nor fails. -/
def Obligations.StuckBusyLineHangsTheBaseline : Prop :=
  ∀ (i : Instr) (s : State) (n : Nat) (rest : List Bool), FlightInv i s →
    (microProgram i s)[s.ustep.toNat]? = some .wait → s.resetIn = false → s.cfg.busyTimeoutPolls = none →
    s.busyIn = List.replicate n true ++ rest →
    runFor n s = .next { s with busyIn := rest, trace := s.trace ++ busyEvents s.cfg n }

/-- R102. The window payloads: X in units of 8 pixels in one byte, Y low byte then high byte; the rule's example. -/
def Obligations.WindowPayloadBytes : Prop :=
  (∀ x : Nat, x ≤ 2047 → (xByte x).toNat = x / 8) ∧
  (∀ y : Nat, y ≤ 65535 → (yBytes y).map BitVec.toNat = [y % 256, y / 256]) ∧
  (∀ c : Config, (windowProgram c 0 199 0 199).filterMap (fun m => match m with | .data bs => some bs | _ => none) =
    [[0x00#8, 0x18#8], [0x00#8, 0x00#8, 0xC7#8, 0x00#8], [0x00#8], [0x00#8, 0x00#8]])

/-- R143, R210. Every transaction is `transact(b, [], 0)` or `transact(none, bs, 0)`: nothing is ever received, and data-select is
at the command level for the first, at the data level for the second. -/
def Obligations.TransactionsNeverReceive : Prop :=
  ∀ (i : Instr) (s : State) (m : MicroOp) (t : Transaction), m ∈ microProgram i s → m.transaction = some t →
    t.expectRx = 0 ∧
    ((∃ b, m = .cmd b ∧ t.command = some b ∧ t.tx = [] ∧ t.dataSelect = .command) ∨
     (∃ bs, m = .data bs ∧ t.command = none ∧ t.tx = bs ∧ t.dataSelect = .data))

/-! ### The driver operations, from accept to their end (spec/42_driver_ops.md) -/

/-- The last step of each driver operation, where its effect is complete: in flight at its last micro-operation, which
succeeds, the operation ends with ERR 0 in the state its rule gives. -/
def Obligations.LastMicroStepCompletesTheOperation : Prop :=
  ∀ s : State, s.issued = none →
    (s.ustep = 23 → nextBus s = .ok → exec .init s = .next { afterBus s with
      trace := s.trace ++ [.data [s.cfg.pay.tempSourceValue] .ok], ustep := 24, phase := .initialized, modeValid := false,
      err := none, polls := 0, active := false }) ∧
    (∀ xs xe ys ye : Nat, s.ustep = 7 → nextBus s = .ok → exec (.setAddressWindow xs xe ys ye) s = .next { afterBus s with
      trace := s.trace ++ [.data [BitVec.ofNat 8 (ys % 256), BitVec.ofNat 8 (ys / 256)] .ok], ustep := 8,
      awXStart := BitVec.ofNat 16 xs, awXEnd := BitVec.ofNat 16 xe, awYStart := BitVec.ofNat 16 ys,
      awYEnd := BitVec.ofNat 16 ye, awValid := true, err := none, polls := 0, active := false }) ∧
    (∀ m, s.ustep = 5 → nextBusy s = false → exec (.enableMode m) s = .next { afterBusy s with
      trace := s.trace ++ [.busy false], ustep := 6, phase := .modeEnabled, mode := m, modeValid := true,
      err := none, polls := 0, active := false }) ∧
    (s.ustep = 9 → nextBus s = .ok → exec .transfer s = .next { afterBus s with
      trace := s.trace ++ [.data ((List.range s.cfg.fbSize).map (readFb s)) .ok], ustep := 10,
      err := none, polls := 0, active := false }) ∧
    (s.ustep = 3 → nextBusy s = false → exec .refresh s = .next { afterBusy s with
      trace := s.trace ++ [.busy false], ustep := 4, phase := .modeEnabled, err := none, polls := 0, active := false }) ∧
    (∀ w, s.ustep = 1 → nextBus s = .ok → exec (.setBorder w) s = .next { afterBus s with
      trace := s.trace ++ [.data [if w then s.cfg.pay.borderDataWhite else s.cfg.pay.borderDataBlack] .ok], ustep := 2,
      borderWhite := w, borderValid := true, err := none, polls := 0, active := false }) ∧
    (s.ustep = 13 → nextBusy s = false → exec .clearDisplay s = .next { afterBusy s with
      trace := s.trace ++ [.busy false], ustep := 14, phase := .modeEnabled, err := none, polls := 0, active := false })

/-- R161. INITIALIZE from accept to its end, every transaction `ok`, the two WAITs finding busy asserted `k1` and `k2` times.
The number of steps counts the check step between accept and the first micro-operation (log 4, DESIGN CHOICE). -/
def Obligations.InitializeRunsToInitialized : Prop :=
  ∀ (s : State) (d : Descriptor) (q : List HostAction) (bus : List BusResult) (busy : List Bool) (k1 k2 : Nat),
    Idle s → Offers d q s → decode d = .op .init → s.phase = .uninitialized → s.polls = 0 →
    WaitOutlasts s.cfg k1 → WaitOutlasts s.cfg k2 →
    s.busIn = List.replicate 17 .ok ++ bus →
    s.busyIn = List.replicate k1 true ++ false :: (List.replicate k2 true ++ false :: busy) →
    runFor (26 + k1 + k2) s = .next { accept d s with
      hostQueue := q, active := false, issued := none, busIn := bus, busyIn := busy, ustep := 24, phase := .initialized, modeValid := false,
      awXStart := 0, awXEnd := BitVec.ofNat 16 (s.cfg.panelW - 1), awYStart := 0,
      awYEnd := BitVec.ofNat 16 (s.cfg.panelH - 1), awValid := true,
      borderWhite := s.cfg.pay.initBorderWhite, borderValid := true, resetOut := false,
      trace := s.trace ++
        [.rst true, .delay s.cfg.pay.tSettle, .delay s.cfg.pay.tSettle, .rst false, .delay s.cfg.pay.tSettle] ++
        busyEvents s.cfg k1 ++ [.busy false, .cmd s.cfg.cmd.swReset .ok] ++
        busyEvents s.cfg k2 ++ [.busy false,
          .cmd s.cfg.cmd.outputScan .ok, .data s.cfg.pay.outputScanData .ok,
          .cmd s.cfg.cmd.dataEntryMode .ok, .data [s.cfg.pay.dataEntryModeValue] .ok] ++
        windowEvents s.cfg 0 (s.cfg.panelW - 1) 0 (s.cfg.panelH - 1) ++
        [.cmd s.cfg.cmd.border .ok,
          .data [if s.cfg.pay.initBorderWhite then s.cfg.pay.borderDataWhite else s.cfg.pay.borderDataBlack] .ok,
          .cmd s.cfg.cmd.tempSource .ok, .data [s.cfg.pay.tempSourceValue] .ok] }

/-- R163. SET_ADDRESS_WINDOW from accept to its end, every transaction `ok`.
The number of steps counts the check step between accept and the first micro-operation (log 4, DESIGN CHOICE). -/
def Obligations.SetAddressWindowRunsToItsEnd : Prop :=
  ∀ (s : State) (d : Descriptor) (q : List HostAction) (bus : List BusResult) (xs xe ys ye : Nat),
    Idle s → Offers d q s → decode d = .op (.setAddressWindow xs xe ys ye) →
    (s.phase = .initialized ∨ s.phase = .modeEnabled) → xs ≤ 2047 → xe ≤ 2047 →
    s.busIn = List.replicate 8 .ok ++ bus → s.polls = 0 →
    runFor 10 s = .next { accept d s with
      hostQueue := q, active := false, issued := none, busIn := bus, ustep := 8, awXStart := BitVec.ofNat 16 xs, awXEnd := BitVec.ofNat 16 xe,
      awYStart := BitVec.ofNat 16 ys, awYEnd := BitVec.ofNat 16 ye, awValid := true,
      trace := s.trace ++ windowEvents s.cfg xs xe ys ye }

/-- R164. ENABLE_MODE from accept to its end, the WAIT finding busy asserted `k` times.
The number of steps counts the check step between accept and the first micro-operation (log 4, DESIGN CHOICE). -/
def Obligations.EnableModeRunsToModeEnabled : Prop :=
  ∀ (s : State) (d : Descriptor) (q : List HostAction) (bus : List BusResult) (busy : List Bool) (m : Mode) (k : Nat),
    Idle s → Offers d q s → decode d = .op (.enableMode m) → (s.phase = .initialized ∨ s.phase = .modeEnabled) →
    s.polls = 0 → WaitOutlasts s.cfg k → s.busIn = List.replicate 5 .ok ++ bus →
    s.busyIn = List.replicate k true ++ false :: busy →
    runFor (8 + k) s = .next { accept d s with
      hostQueue := q, active := false, issued := none, busIn := bus, busyIn := busy, ustep := 6, phase := .modeEnabled, mode := m, modeValid := true,
      trace := s.trace ++
        [.cmd s.cfg.cmd.writeLut .ok, .data (match m with | .mode1 => s.cfg.pay.lutMode1 | .mode2 => s.cfg.pay.lutMode2) .ok,
         .cmd s.cfg.cmd.updateCtrl .ok,
         .data [match m with | .mode1 => s.cfg.pay.updEnableMode1 | .mode2 => s.cfg.pay.updEnableMode2] .ok,
         .cmd s.cfg.cmd.masterActivation .ok] ++ busyEvents s.cfg k ++ [.busy false] }

/-- R165. TRANSFER from accept to its end: the full window, one write-RAM command, `FB_MEM` in address order.
The number of steps counts the check step between accept and the first micro-operation (log 4, DESIGN CHOICE). -/
def Obligations.TransferStreamsTheFramebuffer : Prop :=
  ∀ (s : State) (d : Descriptor) (q : List HostAction) (bus : List BusResult),
    Idle s → Offers d q s → decode d = .op .transfer → (s.phase = .initialized ∨ s.phase = .modeEnabled) →
    s.cfg.fbSize ≠ 0 → s.busIn = List.replicate 10 .ok ++ bus → s.polls = 0 →
    runFor 12 s = .next { accept d s with
      hostQueue := q, active := false, issued := none, busIn := bus, ustep := 10, awXStart := 0, awXEnd := BitVec.ofNat 16 (s.cfg.fbW - 1),
      awYStart := 0, awYEnd := BitVec.ofNat 16 (s.cfg.fbH - 1), awValid := true,
      trace := s.trace ++ windowEvents s.cfg 0 (s.cfg.fbW - 1) 0 (s.cfg.fbH - 1) ++
        [.cmd s.cfg.cmd.writeRam .ok, .data ((List.range s.cfg.fbSize).map (readFb s)) .ok] }

/-- R166. REFRESH from accept to its end, in the mode last enabled.
The number of steps counts the check step between accept and the first micro-operation (log 4, DESIGN CHOICE). -/
def Obligations.RefreshRunsInTheEnabledMode : Prop :=
  ∀ (s : State) (d : Descriptor) (q : List HostAction) (bus : List BusResult) (busy : List Bool) (k : Nat),
    Idle s → Offers d q s → decode d = .op .refresh → s.phase = .modeEnabled →
    s.polls = 0 → WaitOutlasts s.cfg k → s.busIn = List.replicate 3 .ok ++ bus →
    s.busyIn = List.replicate k true ++ false :: busy →
    runFor (6 + k) s = .next { accept d s with
      hostQueue := q, active := false, issued := none, busIn := bus, busyIn := busy, ustep := 4,
      trace := s.trace ++
        [.cmd s.cfg.cmd.updateCtrl .ok,
         .data [match s.mode with | .mode1 => s.cfg.pay.updRefreshMode1 | .mode2 => s.cfg.pay.updRefreshMode2] .ok,
         .cmd s.cfg.cmd.masterActivation .ok] ++ busyEvents s.cfg k ++ [.busy false] }

/-- R167. SET_BORDER from accept to its end.
The number of steps counts the check step between accept and the first micro-operation (log 4, DESIGN CHOICE). -/
def Obligations.SetBorderSendsTheColour : Prop :=
  ∀ (s : State) (d : Descriptor) (q : List HostAction) (bus : List BusResult) (w : Bool),
    Idle s → Offers d q s → decode d = .op (.setBorder w) → (s.phase = .initialized ∨ s.phase = .modeEnabled) →
    s.busIn = .ok :: .ok :: bus → s.polls = 0 →
    runFor 4 s = .next { accept d s with
      hostQueue := q, active := false, issued := none, busIn := bus, ustep := 2, borderWhite := w, borderValid := true,
      trace := s.trace ++ [.cmd s.cfg.cmd.border .ok,
        .data [if w then s.cfg.pay.borderDataWhite else s.cfg.pay.borderDataBlack] .ok] }

/-- R168. CLEAR_DISPLAY from accept to its end: the full panel window, generated white bytes, a refresh; `FB_MEM` untouched.
The number of steps counts the check step between accept and the first micro-operation (log 4, DESIGN CHOICE). -/
def Obligations.ClearDisplayErasesThePanel : Prop :=
  ∀ (s : State) (d : Descriptor) (q : List HostAction) (bus : List BusResult) (busy : List Bool) (k : Nat),
    Idle s → Offers d q s → decode d = .op .clearDisplay → s.phase = .modeEnabled →
    s.polls = 0 → WaitOutlasts s.cfg k → s.busIn = List.replicate 13 .ok ++ bus →
    s.busyIn = List.replicate k true ++ false :: busy →
    runFor (16 + k) s = .next { accept d s with
      hostQueue := q, active := false, issued := none, busIn := bus, busyIn := busy, ustep := 14, awXStart := 0,
      awXEnd := BitVec.ofNat 16 (s.cfg.panelW - 1), awYStart := 0, awYEnd := BitVec.ofNat 16 (s.cfg.panelH - 1),
      awValid := true,
      trace := s.trace ++ windowEvents s.cfg 0 (s.cfg.panelW - 1) 0 (s.cfg.panelH - 1) ++
        [.cmd s.cfg.cmd.writeRam .ok, .data (List.replicate (s.cfg.panelH * (s.cfg.panelW / 8)) 0xFF#8) .ok,
         .cmd s.cfg.cmd.updateCtrl .ok,
         .data [match s.mode with | .mode1 => s.cfg.pay.updRefreshMode1 | .mode2 => s.cfg.pay.updRefreshMode2] .ok,
         .cmd s.cfg.cmd.masterActivation .ok] ++ busyEvents s.cfg k ++ [.busy false] }

/-- R171. `SHOW` (TRANSFER, then REFRESH) with every transaction `ok`: 13 transactions, exactly one write-RAM command,
immediately followed by one data transaction of `FB_H * (FB_W/8)` bytes, exactly one master activation, and after it only
busy samples and delays, the last a `Busy(0)`. The number of steps counts the two accepts and the two check steps (log 4, DESIGN
CHOICE); that the host is a list of actions is log 2 (DESIGN CHOICE). -/
def Obligations.ShowIssuesOneWriteAndOneActivation : Prop :=
  ∀ (s : State) (q : List HostAction) (bus : List BusResult) (busy : List Bool) (k : Nat),
    Idle s → s.hostQueue = showActions ++ q → s.phase = .modeEnabled → s.cfg.fbSize ≠ 0 → s.polls = 0 →
    WaitOutlasts s.cfg k → s.busIn = List.replicate 13 .ok ++ bus → s.busyIn = List.replicate k true ++ false :: busy →
    ∃ t before image between after, runFor (18 + k) s = .next t ∧ t.active = false ∧ t.err = none ∧ t.phase = .modeEnabled ∧
      t.hostQueue = q ∧ t.fbMem = s.fbMem ∧
      t.trace = s.trace ++ (before ++ [.cmd s.cfg.cmd.writeRam .ok, .data image .ok] ++ between ++
        [.cmd s.cfg.cmd.masterActivation .ok] ++ after ++ [.busy false]) ∧
      image.length = s.cfg.fbH * (s.cfg.fbW / 8) ∧
      before = windowEvents s.cfg 0 (s.cfg.fbW - 1) 0 (s.cfg.fbH - 1) ∧
      between = [.cmd s.cfg.cmd.updateCtrl .ok,
        .data [match s.mode with | .mode1 => s.cfg.pay.updRefreshMode1 | .mode2 => s.cfg.pay.updRefreshMode2] .ok] ∧
      (∀ e ∈ before ++ between, e ≠ .cmd s.cfg.cmd.writeRam .ok ∧ e ≠ .cmd s.cfg.cmd.masterActivation .ok ∧
        ((∃ b, e = .cmd b .ok) ∨ ∃ bs, e = .data bs .ok)) ∧
      before.length + between.length + 3 = 13 ∧
      (∀ e ∈ after, e = .busy true ∨ e = .delay s.cfg.pay.tPoll)

/-- R30, R150. The window registers steer nothing: whatever they hold, an operation of the SEQ makes the same transactions and
ends alike; the window is always sent in full. -/
def Obligations.WindowRegistersSteerNothing : Prop :=
  ∀ (i : Instr) (s t : State) (x0 x1 y0 y1 : Half) (v : Bool), exec i s = .next t →
    ∃ t', exec i { s with awXStart := x0, awXEnd := x1, awYStart := y0, awYEnd := y1, awValid := v } = .next t' ∧
      t' = { t with awXStart := t'.awXStart, awXEnd := t'.awXEnd, awYStart := t'.awYStart, awYEnd := t'.awYEnd,
                    awValid := t'.awValid }

/-! ### Errors (spec/60_exceptions.md) -/

/-- R196, R199. `raise` and `done`, the two ends of an operation, field by field. -/
def Obligations.HowAnOperationEnds : Prop :=
  ∀ s : State,
    (∀ e, e = .transportError ∨ e = .busyTimeout →
      raise e s = { s with err := some e, phase := .uninitialized, modeValid := false, awValid := false,
                           borderValid := false, polls := 0, active := false, issued := none }) ∧
    (∀ e, e = .invalidGeometry ∨ e = .protocolStateError ∨ e = .illegalOperation →
      raise e s = { s with err := some e, polls := 0, active := false, issued := none }) ∧
    finish s = { s with err := none, polls := 0, active := false, issued := none }

/-- R197, R132. `FB_MEM` is never changed by an operation that ends in error, and never by a driver operation. -/
def Obligations.ErrorsLeaveTheFramebuffer : Prop :=
  ∀ (i : Instr) (s t : State), exec i s = .next t →
    (t.err ≠ none → t.fbMem = s.fbMem) ∧
    (isDriver i = true → t.fbMem = s.fbMem ∧ t.src = s.src ∧ t.cfg = s.cfg ∧ t.epoch = s.epoch ∧
      operandDescriptor t = operandDescriptor s)

/-- R191, R194, R200. Only a transaction that failed makes TransportError and only a bounded WAIT makes BusyTimeout; the session is
then in phase Uninitialized: INITIALIZE may be issued again, every other driver operation is rejected. -/
def Obligations.RunTimeErrorNeedsANewInitialize : Prop :=
  ∀ (i : Instr) (s t : State) (e : ErrKind), s.err = none → exec i s = .next t → t.err = some e →
    e = .transportError ∨ e = .busyTimeout →
    isDriver i = true ∧ s.issued = none ∧ t.active = false ∧ t.ustep = s.ustep ∧ t.phase = .uninitialized ∧
    t.modeValid = false ∧ t.awValid = false ∧ t.borderValid = false ∧
    (e = .transportError → nextBus s = .fail) ∧
    (e = .busyTimeout → nextBusy s = true ∧ ∃ n, s.cfg.busyTimeoutPolls = some n ∧ n ≤ s.polls + 1) ∧
    (∀ d j, decode d = .op j → isDriver j = true →
      (j = .init → exec j (accept d t) = .next { initAccept (accept d t) with issued := none }) ∧
      (j ≠ .init → exec j (accept d t) =
        .next { accept d t with err := some .protocolStateError, active := false, issued := none }))

/-! ### The whole machine -/

/-- R37. The only changes of `PHASE`, `MODE` and `MODE_VALID` a step makes (block reset apart), each with its event. What INITIALIZE
and REFRESH attach to accept is done when their checks have passed (R160), in the step of the checks (log 4, DESIGN CHOICE). -/
def Obligations.PhaseChangesOnlyAsTheTableSays : Prop :=
  ∀ s t : State, Inv s → s.resetIn = false → step s = .next t →
    (t.phase = s.phase ∧ t.modeValid = s.modeValid ∧ t.mode = s.mode) ∨
    (s.phase = .uninitialized ∧ s.active = true ∧ (∃ d, s.issued = some d ∧ decode d = .op .init) ∧
      t.phase = .resetting ∧ t.active = true ∧ t.modeValid = false ∧ t.mode = s.mode) ∨
    (s.phase = .resetting ∧ s.active = true ∧ decode (operandDescriptor s) = .op .init ∧
      t.phase = .initialized ∧ t.active = false ∧ t.err = none ∧ t.modeValid = false ∧ t.mode = s.mode) ∨
    ((s.phase = .initialized ∨ s.phase = .modeEnabled) ∧ s.active = true ∧
      decode (operandDescriptor s) = .op (.enableMode t.mode) ∧
      t.phase = .modeEnabled ∧ t.active = false ∧ t.err = none ∧ t.modeValid = true) ∨
    (s.phase = .modeEnabled ∧ s.active = true ∧
      ((∃ d, s.issued = some d ∧ decode d = .op .refresh) ∨
        s.issued = none ∧ decode (operandDescriptor s) = .op .clearDisplay ∧ s.ustep = 9) ∧
      t.phase = .refreshing ∧ t.active = true ∧ t.mode = s.mode ∧ t.modeValid = true) ∨
    (s.phase = .refreshing ∧ s.active = true ∧ nextBusy s = false ∧
      (decode (operandDescriptor s) = .op .refresh ∨ decode (operandDescriptor s) = .op .clearDisplay) ∧
      t.phase = .modeEnabled ∧ t.active = false ∧ t.err = none ∧ t.mode = s.mode ∧ t.modeValid = true) ∨
    (s.active = true ∧ t.phase = .uninitialized ∧ t.active = false ∧ t.modeValid = false ∧ t.mode = s.mode ∧
      (t.err = some .transportError ∨ t.err = some .busyTimeout))

/-- R14, R140. TRACE only grows, and only by micro-operations: a step of an idle block, and the step that decodes and checks, append
nothing, and every micro-operation of the operation in flight appends its event or events. A WAIT's `Delay` follows every busy
sample but the one that ends it (R145). -/
def Obligations.TraceGrowsByMicroOperationsOnly : Prop :=
  ∀ s t : State, Inv s → s.resetIn = false → step s = .next t →
    (s.active = false ∨ s.issued ≠ none → t.trace = s.trace) ∧
    (s.active = true → s.issued = none → ∃ i m, InFlightAt i m s ∧ decode (operandDescriptor s) = .op i ∧
      ((∃ b, m = .cmd b ∧ t.trace = s.trace ++ [.cmd b (nextBus s)]) ∨
       (∃ bs, m = .data bs ∧ t.trace = s.trace ++ [.data bs (nextBus s)]) ∨
       (∃ v, m = .rst v ∧ t.trace = s.trace ++ [.rst v]) ∨
       (∃ d, m = .delay d ∧ t.trace = s.trace ++ [.delay d]) ∨
       (m = .wait ∧ t.trace = s.trace ++ .busy (nextBusy s) ::
         (if nextBusy s = true ∧ t.active = true then [.delay s.cfg.pay.tPoll] else []))))

/-- R32, R146. The reset output changes only by an `RST` micro-operation of an INITIALIZE in flight (block reset apart). -/
def Obligations.ResetOutputIsDrivenOnlyByRst : Prop :=
  ∀ s t : State, s.resetIn = false → step s = .next t →
    t.resetOut = s.resetOut ∨ (InFlightAt .init (.rst t.resetOut) s ∧ decode (operandDescriptor s) = .op .init)

/-- R26 to R33. The registers as the host reads them, field by field; a field whose valid bit is 0 is not spoken of (U4). -/
def Obligations.HostRegisterFields : Prop :=
  ∀ s : State,
    ((hostRead s 0).getLsbD 0 = s.active ∧ (hostRead s 0).extractLsb' 1 3 = (match s.err with
        | none => 0#3 | some .transportError => 1#3 | some .invalidGeometry => 2#3 | some .protocolStateError => 3#3
        | some .busyTimeout => 4#3 | some .illegalOperation => 5#3) ∧
      (hostRead s 0).extractLsb' 4 28 = 0#28) ∧
    (hostRead s 1).toNat = (match s.phase with
      | .uninitialized => 0 | .resetting => 1 | .initialized => 2 | .modeEnabled => 3 | .refreshing => 4) ∧
    ((hostRead s 2).getLsbD 1 = s.modeValid ∧ (s.modeValid = true → ((hostRead s 2).getLsbD 0 = true ↔ s.mode = .mode2)) ∧
      (hostRead s 2).extractLsb' 2 30 = 0#30) ∧
    ((hostRead s 3).getLsbD 1 = s.borderValid ∧ (s.borderValid = true → (hostRead s 3).getLsbD 0 = s.borderWhite) ∧
      (hostRead s 3).extractLsb' 2 30 = 0#30) ∧
    (s.awValid = true →
      (hostRead s 4).extractLsb' 0 16 = s.awXStart ∧ (hostRead s 4).extractLsb' 16 16 = s.awXEnd ∧
      (hostRead s 5).extractLsb' 0 16 = s.awYStart ∧ (hostRead s 5).extractLsb' 16 16 = s.awYEnd) ∧
    ((hostRead s 6).getLsbD 0 = s.awValid ∧ (hostRead s 6).extractLsb' 1 31 = 0#31) ∧
    ((hostRead s 7).extractLsb' 0 8 = s.ustep ∧ (hostRead s 7).extractLsb' 8 24 = 0#24) ∧
    (∀ n, 8 ≤ n → hostRead s n = 0)

/-- R34, R73. While `ACTIVE = 0` the host reads any byte of `FB_MEM`, 0 to `FB_SIZE - 1`, and reads the byte a TRANSFER would send at
that place (R103). Elsewhere, and while `ACTIVE = 1`, the port answers nothing: the model's choice (log 17, DESIGN CHOICE). -/
def Obligations.FramebufferReadPort : Prop :=
  ∀ (s : State) (a : Nat),
    (s.active = false → a < s.cfg.fbSize → hostReadFb s a = some (readFb s a)) ∧
    (s.active = false → hostReadFb s a = (fbImage s)[a]?) ∧
    (s.active = true ∨ s.cfg.fbSize ≤ a → hostReadFb s a = none)

/-- The state after reset meets the invariant. -/
def Obligations.ResetMeetsTheInvariant : Prop := Inv State.reset

/-- R24, R28, R31, R129, R169, as one invariant: every step that answers a next state keeps it, from every state that meets it. -/
def Obligations.StepKeepsTheInvariant : Prop :=
  ∀ s t : State, Inv s → step s = .next t → Inv t

/-- spec/93_implementation_defined.md: "Stuck states: the block has none." From every state that meets the invariant the machine
goes on for ever: no fault and no refusal is ever reached. -/
def Obligations.TheMachineNeverGetsStuck : Prop :=
  ∀ s : State, Inv s → RunsForever s
end

