-- ==== Sys2Proof/Laws/Decode.lean ====
section
/-! SUPPORT. The fields of a packed descriptor, and the operation the operand registers hold after accept. -/

namespace Sys2Proof

section pack
variable (opc : Byte) (f : Bool) (a0 a1 a2 a3 : Half) (b l : Word)

@[simp] theorem pack_opc : (Descriptor.pack opc f a0 a1 a2 a3 b l).opc = opc := by
  ext i hi
  have h1 : i < 32 := by omega
  simp [Descriptor.pack, Descriptor.opc, BitVec.getElem_extractLsb', hi, h1]

@[simp] theorem pack_flag : (Descriptor.pack opc f a0 a1 a2 a3 b l).flag = f := by
  simp [Descriptor.pack, Descriptor.flag]

@[simp] theorem pack_reserved : (Descriptor.pack opc f a0 a1 a2 a3 b l).reserved = 0#23 := by
  ext i hi
  simp [Descriptor.pack, Descriptor.reserved, BitVec.getElem_extractLsb']
  exact ⟨fun _ => BitVec.getLsbD_of_ge _ _ (by omega), by omega⟩

@[simp] theorem pack_a0 : (Descriptor.pack opc f a0 a1 a2 a3 b l).a0 = a0 := by
  ext i hi
  have h1 : i < 32 := by omega
  simp [Descriptor.pack, Descriptor.a0, BitVec.getElem_extractLsb', hi, h1]

@[simp] theorem pack_a1 : (Descriptor.pack opc f a0 a1 a2 a3 b l).a1 = a1 := by
  ext i hi
  have h1 : 16 + i < 32 := by omega
  simp [Descriptor.pack, Descriptor.a1, BitVec.getElem_extractLsb', hi, h1]

@[simp] theorem pack_a2 : (Descriptor.pack opc f a0 a1 a2 a3 b l).a2 = a2 := by
  ext i hi
  have h1 : i < 32 := by omega
  simp [Descriptor.pack, Descriptor.a2, BitVec.getElem_extractLsb', hi, h1]

@[simp] theorem pack_a3 : (Descriptor.pack opc f a0 a1 a2 a3 b l).a3 = a3 := by
  ext i hi
  have h1 : 16 + i < 32 := by omega
  simp [Descriptor.pack, Descriptor.a3, BitVec.getElem_extractLsb', hi, h1]

@[simp] theorem pack_w3 : (Descriptor.pack opc f a0 a1 a2 a3 b l).w3 = b := rfl

@[simp] theorem pack_w4 : (Descriptor.pack opc f a0 a1 a2 a3 b l).w4 = l := rfl

end pack

/-- Decoding depends on a descriptor through its fields alone. -/
theorem decode_congr {d e : Descriptor} (h0 : d.reserved = e.reserved) (h1 : d.opc = e.opc) (h2 : d.flag = e.flag)
    (h3 : d.a0 = e.a0) (h4 : d.a1 = e.a1) (h5 : d.a2 = e.a2) (h6 : d.a3 = e.a3) (h7 : d.w3 = e.w3) (h8 : d.w4 = e.w4) :
    decode d = decode e := by
  simp only [decode, withoutFlag, Descriptor.rect, h0, h1, h2, h3, h4, h5, h6, h7, h8]

/-- A descriptor that decodes has its reserved bits 0. -/
theorem decode_op_reserved {d : Descriptor} {i : Instr} (h : decode d = .op i) : d.reserved = 0#23 := by
  by_contra hr
  simp [decode, hr] at h

/-- After accept the operand registers hold the operation issued (R94: the whole descriptor is latched). -/
theorem decode_operandDescriptor_accept {d : Descriptor} {i : Instr} (h : decode d = .op i) (s : Machine.State) :
    decode (Machine.operandDescriptor (Machine.accept d s)) = .op i := by
  rw [← h]
  apply decode_congr <;> simp [Machine.operandDescriptor, Machine.accept, decode_op_reserved h]

end Sys2Proof
end

