-- ==== Sys2Proof/Laws/Memory.lean ====
section
/-! SUPPORT. What the memory operations do: read after write, the canonical form kept, equal contents are equal data. -/

namespace Sys2Proof.Machine

@[simp] theorem Memory.lookup_nil (a : Nat) : Memory.lookup a [] = none := rfl

theorem Memory.lookup_cons (a : Nat) (c : Host.Cell) (m : Memory) :
    Memory.lookup a (c :: m) = if c.1 = a then some c.2 else Memory.lookup a m := rfl

/-- Read after write. -/
@[simp] theorem Memory.lookup_write (a b : Nat) (v : Byte) (m : Memory) :
    Memory.lookup a (Memory.write b v m) = if b = a then some v else Memory.lookup a m := by
  induction m with
  | nil => rfl
  | cons c m ih =>
    unfold Memory.write
    split
    · rfl
    · split
      · rename_i h
        subst h
        by_cases hb : c.1 = a <;> simp [Memory.lookup_cons, hb]
      · rename_i h
        by_cases hb : b = a
        · subst hb
          simp [Memory.lookup_cons, ih, Ne.symm h]
        · simp [Memory.lookup_cons, ih, hb]

/-- A written cell is either the new one or an old one. -/
theorem Memory.mem_write {a : Nat} {v : Byte} {m : Memory} {c : Host.Cell} (h : c ∈ Memory.write a v m) :
    c = (a, v) ∨ c ∈ m := by
  induction m with
  | nil => exact .inl (by simpa [Memory.write] using h)
  | cons d m ih =>
    unfold Memory.write at h
    split at h
    · simpa using h
    · split at h
      · rcases List.mem_cons.1 h with h | h <;> simp [h]
      · rcases List.mem_cons.1 h with h | h
        · simp [h]
        · rcases ih h with h | h <;> simp [h]

/-- A write keeps the canonical form. -/
theorem Memory.wf_write {m : Memory} (h : m.wf) (a : Nat) (v : Byte) : (Memory.write a v m).wf := by
  induction m with
  | nil => simp [Memory.write, Memory.wf]
  | cons d m ih =>
    have ⟨hd, hm⟩ := List.pairwise_cons.1 h
    unfold Memory.write
    split
    · rename_i ha
      refine List.pairwise_cons.2 ⟨fun c hc => ?_, h⟩
      rcases List.mem_cons.1 hc with rfl | hc
      · exact ha
      · exact Nat.lt_trans ha (hd c hc)
    · split
      · rename_i ha
        exact List.pairwise_cons.2 ⟨fun c hc => by rw [ha]; exact hd c hc, hm⟩
      · rename_i h1 h2
        refine List.pairwise_cons.2 ⟨fun c hc => ?_, ih hm⟩
        rcases Memory.mem_write hc with rfl | hc
        · show d.1 < a
          omega
        · exact hd c hc

@[simp] theorem Memory.writeAll_nil (m : Memory) : m.writeAll [] = m := rfl

@[simp] theorem Memory.writeAll_cons (w : Nat × Byte) (ws : List (Nat × Byte)) (m : Memory) :
    m.writeAll (w :: ws) = (Memory.write w.1 w.2 m).writeAll ws := rfl

theorem Memory.wf_writeAll (ws : List (Nat × Byte)) {m : Memory} (h : m.wf) : (m.writeAll ws).wf := by
  induction ws generalizing m with
  | nil => exact h
  | cons w ws ih => exact ih (Memory.wf_write h w.1 w.2)

theorem Memory.mem_writeAll {ws : List (Nat × Byte)} {m : Memory} {c : Host.Cell} (h : c ∈ m.writeAll ws) :
    c ∈ ws ∨ c ∈ m := by
  induction ws generalizing m with
  | nil => exact .inr h
  | cons w ws ih =>
    rcases ih h with h | h
    · simp [h]
    · rcases Memory.mem_write h with rfl | h <;> simp [*]

/-- An address none of the writes names keeps its value. -/
theorem Memory.lookup_writeAll_of_not_mem {ws : List (Nat × Byte)} {m : Memory} {a : Nat}
    (h : ∀ w ∈ ws, w.1 ≠ a) : Memory.lookup a (m.writeAll ws) = Memory.lookup a m := by
  induction ws generalizing m with
  | nil => rfl
  | cons w ws ih =>
    rw [Memory.writeAll_cons, ih fun w' h' => h w' (List.mem_cons_of_mem _ h')]
    simp [h w List.mem_cons_self]

/-- An address to which all writes that name it give one value has that value. -/
theorem Memory.lookup_writeAll_of_mem {ws : List (Nat × Byte)} {m : Memory} {a : Nat} {v : Byte}
    (hmem : (a, v) ∈ ws) (hval : ∀ w ∈ ws, w.1 = a → w.2 = v) :
    Memory.lookup a (m.writeAll ws) = some v := by
  induction ws generalizing m with
  | nil => simp at hmem
  | cons w ws ih =>
    rw [Memory.writeAll_cons]
    by_cases hin : (a, v) ∈ ws
    · exact ih hin fun w' h' => hval w' (List.mem_cons_of_mem _ h')
    · by_cases hany : ∃ w' ∈ ws, w'.1 = a
      · obtain ⟨w', hw', rfl⟩ := hany
        have := hval w' (List.mem_cons_of_mem _ hw') rfl
        exact absurd (by rw [← this]; exact hw') hin
      · rw [Memory.lookup_writeAll_of_not_mem fun w' h' e => hany ⟨w', h', e⟩]
        rcases List.mem_cons.1 hmem with rfl | h
        · simp
        · exact absurd h hin

theorem Memory.lookup_eq_none_of_lt {m : Memory} {a : Nat} (h : ∀ c ∈ m, a < c.1) : Memory.lookup a m = none := by
  induction m with
  | nil => rfl
  | cons c m ih =>
    have := h c List.mem_cons_self
    rw [Memory.lookup_cons, if_neg (by omega), ih fun d hd => h d (List.mem_cons_of_mem _ hd)]

/-- Canonical memories with equal contents are equal data. -/
theorem Memory.ext {m n : Memory} (hm : m.wf) (hn : n.wf)
    (h : ∀ a, Memory.lookup a m = Memory.lookup a n) : m = n := by
  induction m generalizing n with
  | nil =>
    cases n with
    | nil => rfl
    | cons c n => have := h c.1; simp [Memory.lookup_cons] at this
  | cons c m ih =>
    cases n with
    | nil => have := h c.1; simp [Memory.lookup_cons] at this
    | cons d n =>
      have ⟨hc, hm'⟩ := List.pairwise_cons.1 hm
      have ⟨hd, hn'⟩ := List.pairwise_cons.1 hn
      have hlow : ∀ {x : Nat} {e : Host.Cell} {l : Memory}, (∀ y ∈ l, e.1 < y.1) → x < e.1 →
          Memory.lookup x (e :: l) = none := fun hl hx =>
        Memory.lookup_eq_none_of_lt fun y hy => by
          rcases List.mem_cons.1 hy with rfl | hy
          · exact hx
          · exact Nat.lt_trans hx (hl y hy)
      have key : c.1 = d.1 := by
        rcases Nat.lt_trichotomy c.1 d.1 with hlt | heq | hgt
        · have := h c.1
          rw [hlow hd hlt, Memory.lookup_cons, if_pos rfl] at this
          cases this
        · exact heq
        · have := h d.1
          rw [hlow hc hgt, Memory.lookup_cons, if_pos rfl] at this
          cases this
      have hv : c.2 = d.2 := by
        have := h c.1
        rw [Memory.lookup_cons, Memory.lookup_cons, if_pos rfl, if_pos key.symm] at this
        exact Option.some.inj this
      have hcd : c = d := Prod.ext key hv
      subst hcd
      rw [ih hm' hn' fun a => ?_]
      have := h a
      rw [Memory.lookup_cons, Memory.lookup_cons] at this
      split at this
      · rename_i hca
        rw [Memory.lookup_eq_none_of_lt fun y hy => hca ▸ hc y hy, Memory.lookup_eq_none_of_lt fun y hy => hca ▸ hd y hy]
      · exact this

end Sys2Proof.Machine
end

