-- ==== Sys2Proof/Laws/State.lean ====
section
/-! SUPPORT. One lemma per field and named update of the state, so that no later proof unfolds a record update. -/

namespace Sys2Proof.Machine

/-! ### `emit` -/

@[simp] theorem emit_cfg (e : Event) (s : State) :
    (emit e s).cfg = s.cfg := rfl
@[simp] theorem emit_fbMem (e : Event) (s : State) :
    (emit e s).fbMem = s.fbMem := rfl
@[simp] theorem emit_opc (e : Event) (s : State) :
    (emit e s).opc = s.opc := rfl
@[simp] theorem emit_f (e : Event) (s : State) :
    (emit e s).f = s.f := rfl
@[simp] theorem emit_a0 (e : Event) (s : State) :
    (emit e s).a0 = s.a0 := rfl
@[simp] theorem emit_a1 (e : Event) (s : State) :
    (emit e s).a1 = s.a1 := rfl
@[simp] theorem emit_a2 (e : Event) (s : State) :
    (emit e s).a2 = s.a2 := rfl
@[simp] theorem emit_a3 (e : Event) (s : State) :
    (emit e s).a3 = s.a3 := rfl
@[simp] theorem emit_srcBase (e : Event) (s : State) :
    (emit e s).srcBase = s.srcBase := rfl
@[simp] theorem emit_srcLen (e : Event) (s : State) :
    (emit e s).srcLen = s.srcLen := rfl
@[simp] theorem emit_ustep (e : Event) (s : State) :
    (emit e s).ustep = s.ustep := rfl
@[simp] theorem emit_active (e : Event) (s : State) :
    (emit e s).active = s.active := rfl
@[simp] theorem emit_err (e : Event) (s : State) :
    (emit e s).err = s.err := rfl
@[simp] theorem emit_phase (e : Event) (s : State) :
    (emit e s).phase = s.phase := rfl
@[simp] theorem emit_mode (e : Event) (s : State) :
    (emit e s).mode = s.mode := rfl
@[simp] theorem emit_modeValid (e : Event) (s : State) :
    (emit e s).modeValid = s.modeValid := rfl
@[simp] theorem emit_borderWhite (e : Event) (s : State) :
    (emit e s).borderWhite = s.borderWhite := rfl
@[simp] theorem emit_borderValid (e : Event) (s : State) :
    (emit e s).borderValid = s.borderValid := rfl
@[simp] theorem emit_awXStart (e : Event) (s : State) :
    (emit e s).awXStart = s.awXStart := rfl
@[simp] theorem emit_awXEnd (e : Event) (s : State) :
    (emit e s).awXEnd = s.awXEnd := rfl
@[simp] theorem emit_awYStart (e : Event) (s : State) :
    (emit e s).awYStart = s.awYStart := rfl
@[simp] theorem emit_awYEnd (e : Event) (s : State) :
    (emit e s).awYEnd = s.awYEnd := rfl
@[simp] theorem emit_awValid (e : Event) (s : State) :
    (emit e s).awValid = s.awValid := rfl
@[simp] theorem emit_polls (e : Event) (s : State) :
    (emit e s).polls = s.polls := rfl
@[simp] theorem emit_resetOut (e : Event) (s : State) :
    (emit e s).resetOut = s.resetOut := rfl
@[simp] theorem emit_src (e : Event) (s : State) :
    (emit e s).src = s.src := rfl
@[simp] theorem emit_hostQueue (e : Event) (s : State) :
    (emit e s).hostQueue = s.hostQueue := rfl
@[simp] theorem emit_busIn (e : Event) (s : State) :
    (emit e s).busIn = s.busIn := rfl
@[simp] theorem emit_busyIn (e : Event) (s : State) :
    (emit e s).busyIn = s.busyIn := rfl
@[simp] theorem emit_resetIn (e : Event) (s : State) :
    (emit e s).resetIn = s.resetIn := rfl
@[simp] theorem emit_draws (e : Event) (s : State) :
    (emit e s).draws = s.draws := rfl
@[simp] theorem emit_epoch (e : Event) (s : State) :
    (emit e s).epoch = s.epoch := rfl
@[simp] theorem emit_trace (e : Event) (s : State) :
    (emit e s).trace = s.trace ++ [e] := rfl
@[simp] theorem emit_issued (e : Event) (s : State) :
    (emit e s).issued = s.issued := rfl

/-! ### `accept` -/

@[simp] theorem accept_cfg (d : Descriptor) (s : State) :
    (accept d s).cfg = s.cfg := rfl
@[simp] theorem accept_fbMem (d : Descriptor) (s : State) :
    (accept d s).fbMem = s.fbMem := rfl
@[simp] theorem accept_opc (d : Descriptor) (s : State) :
    (accept d s).opc = d.opc := rfl
@[simp] theorem accept_f (d : Descriptor) (s : State) :
    (accept d s).f = d.flag := rfl
@[simp] theorem accept_a0 (d : Descriptor) (s : State) :
    (accept d s).a0 = d.a0 := rfl
@[simp] theorem accept_a1 (d : Descriptor) (s : State) :
    (accept d s).a1 = d.a1 := rfl
@[simp] theorem accept_a2 (d : Descriptor) (s : State) :
    (accept d s).a2 = d.a2 := rfl
@[simp] theorem accept_a3 (d : Descriptor) (s : State) :
    (accept d s).a3 = d.a3 := rfl
@[simp] theorem accept_srcBase (d : Descriptor) (s : State) :
    (accept d s).srcBase = d.w3 := rfl
@[simp] theorem accept_srcLen (d : Descriptor) (s : State) :
    (accept d s).srcLen = d.w4 := rfl
@[simp] theorem accept_ustep (d : Descriptor) (s : State) :
    (accept d s).ustep = 0 := rfl
@[simp] theorem accept_active (d : Descriptor) (s : State) :
    (accept d s).active = true := rfl
@[simp] theorem accept_err (d : Descriptor) (s : State) :
    (accept d s).err = none := rfl
@[simp] theorem accept_phase (d : Descriptor) (s : State) :
    (accept d s).phase = s.phase := rfl
@[simp] theorem accept_mode (d : Descriptor) (s : State) :
    (accept d s).mode = s.mode := rfl
@[simp] theorem accept_modeValid (d : Descriptor) (s : State) :
    (accept d s).modeValid = s.modeValid := rfl
@[simp] theorem accept_borderWhite (d : Descriptor) (s : State) :
    (accept d s).borderWhite = s.borderWhite := rfl
@[simp] theorem accept_borderValid (d : Descriptor) (s : State) :
    (accept d s).borderValid = s.borderValid := rfl
@[simp] theorem accept_awXStart (d : Descriptor) (s : State) :
    (accept d s).awXStart = s.awXStart := rfl
@[simp] theorem accept_awXEnd (d : Descriptor) (s : State) :
    (accept d s).awXEnd = s.awXEnd := rfl
@[simp] theorem accept_awYStart (d : Descriptor) (s : State) :
    (accept d s).awYStart = s.awYStart := rfl
@[simp] theorem accept_awYEnd (d : Descriptor) (s : State) :
    (accept d s).awYEnd = s.awYEnd := rfl
@[simp] theorem accept_awValid (d : Descriptor) (s : State) :
    (accept d s).awValid = s.awValid := rfl
@[simp] theorem accept_polls (d : Descriptor) (s : State) :
    (accept d s).polls = s.polls := rfl
@[simp] theorem accept_resetOut (d : Descriptor) (s : State) :
    (accept d s).resetOut = s.resetOut := rfl
@[simp] theorem accept_src (d : Descriptor) (s : State) :
    (accept d s).src = s.src := rfl
@[simp] theorem accept_hostQueue (d : Descriptor) (s : State) :
    (accept d s).hostQueue = s.hostQueue := rfl
@[simp] theorem accept_busIn (d : Descriptor) (s : State) :
    (accept d s).busIn = s.busIn := rfl
@[simp] theorem accept_busyIn (d : Descriptor) (s : State) :
    (accept d s).busyIn = s.busyIn := rfl
@[simp] theorem accept_resetIn (d : Descriptor) (s : State) :
    (accept d s).resetIn = s.resetIn := rfl
@[simp] theorem accept_draws (d : Descriptor) (s : State) :
    (accept d s).draws = s.draws := rfl
@[simp] theorem accept_epoch (d : Descriptor) (s : State) :
    (accept d s).epoch = s.epoch := rfl
@[simp] theorem accept_trace (d : Descriptor) (s : State) :
    (accept d s).trace = s.trace := rfl
@[simp] theorem accept_issued (d : Descriptor) (s : State) :
    (accept d s).issued = some d := rfl

/-! ### `startOp` -/

@[simp] theorem startOp_cfg (s : State) :
    (startOp s).cfg = s.cfg := rfl
@[simp] theorem startOp_fbMem (s : State) :
    (startOp s).fbMem = s.fbMem := rfl
@[simp] theorem startOp_opc (s : State) :
    (startOp s).opc = s.opc := rfl
@[simp] theorem startOp_f (s : State) :
    (startOp s).f = s.f := rfl
@[simp] theorem startOp_a0 (s : State) :
    (startOp s).a0 = s.a0 := rfl
@[simp] theorem startOp_a1 (s : State) :
    (startOp s).a1 = s.a1 := rfl
@[simp] theorem startOp_a2 (s : State) :
    (startOp s).a2 = s.a2 := rfl
@[simp] theorem startOp_a3 (s : State) :
    (startOp s).a3 = s.a3 := rfl
@[simp] theorem startOp_srcBase (s : State) :
    (startOp s).srcBase = s.srcBase := rfl
@[simp] theorem startOp_srcLen (s : State) :
    (startOp s).srcLen = s.srcLen := rfl
@[simp] theorem startOp_ustep (s : State) :
    (startOp s).ustep = s.ustep := rfl
@[simp] theorem startOp_active (s : State) :
    (startOp s).active = s.active := rfl
@[simp] theorem startOp_err (s : State) :
    (startOp s).err = s.err := rfl
@[simp] theorem startOp_phase (s : State) :
    (startOp s).phase = s.phase := rfl
@[simp] theorem startOp_mode (s : State) :
    (startOp s).mode = s.mode := rfl
@[simp] theorem startOp_modeValid (s : State) :
    (startOp s).modeValid = s.modeValid := rfl
@[simp] theorem startOp_borderWhite (s : State) :
    (startOp s).borderWhite = s.borderWhite := rfl
@[simp] theorem startOp_borderValid (s : State) :
    (startOp s).borderValid = s.borderValid := rfl
@[simp] theorem startOp_awXStart (s : State) :
    (startOp s).awXStart = s.awXStart := rfl
@[simp] theorem startOp_awXEnd (s : State) :
    (startOp s).awXEnd = s.awXEnd := rfl
@[simp] theorem startOp_awYStart (s : State) :
    (startOp s).awYStart = s.awYStart := rfl
@[simp] theorem startOp_awYEnd (s : State) :
    (startOp s).awYEnd = s.awYEnd := rfl
@[simp] theorem startOp_awValid (s : State) :
    (startOp s).awValid = s.awValid := rfl
@[simp] theorem startOp_polls (s : State) :
    (startOp s).polls = s.polls := rfl
@[simp] theorem startOp_resetOut (s : State) :
    (startOp s).resetOut = s.resetOut := rfl
@[simp] theorem startOp_src (s : State) :
    (startOp s).src = s.src := rfl
@[simp] theorem startOp_hostQueue (s : State) :
    (startOp s).hostQueue = s.hostQueue := rfl
@[simp] theorem startOp_busIn (s : State) :
    (startOp s).busIn = s.busIn := rfl
@[simp] theorem startOp_busyIn (s : State) :
    (startOp s).busyIn = s.busyIn := rfl
@[simp] theorem startOp_resetIn (s : State) :
    (startOp s).resetIn = s.resetIn := rfl
@[simp] theorem startOp_draws (s : State) :
    (startOp s).draws = s.draws := rfl
@[simp] theorem startOp_epoch (s : State) :
    (startOp s).epoch = s.epoch := rfl
@[simp] theorem startOp_trace (s : State) :
    (startOp s).trace = s.trace := rfl
@[simp] theorem startOp_issued (s : State) :
    (startOp s).issued = none := rfl

/-! ### `finish` -/

@[simp] theorem finish_cfg (s : State) :
    (finish s).cfg = s.cfg := rfl
@[simp] theorem finish_fbMem (s : State) :
    (finish s).fbMem = s.fbMem := rfl
@[simp] theorem finish_opc (s : State) :
    (finish s).opc = s.opc := rfl
@[simp] theorem finish_f (s : State) :
    (finish s).f = s.f := rfl
@[simp] theorem finish_a0 (s : State) :
    (finish s).a0 = s.a0 := rfl
@[simp] theorem finish_a1 (s : State) :
    (finish s).a1 = s.a1 := rfl
@[simp] theorem finish_a2 (s : State) :
    (finish s).a2 = s.a2 := rfl
@[simp] theorem finish_a3 (s : State) :
    (finish s).a3 = s.a3 := rfl
@[simp] theorem finish_srcBase (s : State) :
    (finish s).srcBase = s.srcBase := rfl
@[simp] theorem finish_srcLen (s : State) :
    (finish s).srcLen = s.srcLen := rfl
@[simp] theorem finish_ustep (s : State) :
    (finish s).ustep = s.ustep := rfl
@[simp] theorem finish_active (s : State) :
    (finish s).active = false := rfl
@[simp] theorem finish_err (s : State) :
    (finish s).err = none := rfl
@[simp] theorem finish_phase (s : State) :
    (finish s).phase = s.phase := rfl
@[simp] theorem finish_mode (s : State) :
    (finish s).mode = s.mode := rfl
@[simp] theorem finish_modeValid (s : State) :
    (finish s).modeValid = s.modeValid := rfl
@[simp] theorem finish_borderWhite (s : State) :
    (finish s).borderWhite = s.borderWhite := rfl
@[simp] theorem finish_borderValid (s : State) :
    (finish s).borderValid = s.borderValid := rfl
@[simp] theorem finish_awXStart (s : State) :
    (finish s).awXStart = s.awXStart := rfl
@[simp] theorem finish_awXEnd (s : State) :
    (finish s).awXEnd = s.awXEnd := rfl
@[simp] theorem finish_awYStart (s : State) :
    (finish s).awYStart = s.awYStart := rfl
@[simp] theorem finish_awYEnd (s : State) :
    (finish s).awYEnd = s.awYEnd := rfl
@[simp] theorem finish_awValid (s : State) :
    (finish s).awValid = s.awValid := rfl
@[simp] theorem finish_polls (s : State) :
    (finish s).polls = 0 := rfl
@[simp] theorem finish_resetOut (s : State) :
    (finish s).resetOut = s.resetOut := rfl
@[simp] theorem finish_src (s : State) :
    (finish s).src = s.src := rfl
@[simp] theorem finish_hostQueue (s : State) :
    (finish s).hostQueue = s.hostQueue := rfl
@[simp] theorem finish_busIn (s : State) :
    (finish s).busIn = s.busIn := rfl
@[simp] theorem finish_busyIn (s : State) :
    (finish s).busyIn = s.busyIn := rfl
@[simp] theorem finish_resetIn (s : State) :
    (finish s).resetIn = s.resetIn := rfl
@[simp] theorem finish_draws (s : State) :
    (finish s).draws = s.draws := rfl
@[simp] theorem finish_epoch (s : State) :
    (finish s).epoch = s.epoch := rfl
@[simp] theorem finish_trace (s : State) :
    (finish s).trace = s.trace := rfl
@[simp] theorem finish_issued (s : State) :
    (finish s).issued = none := rfl

/-! ### `raise` -/

@[simp] theorem raise_cfg (e : ErrKind) (s : State) :
    (raise e s).cfg = s.cfg := by cases e <;> rfl
@[simp] theorem raise_fbMem (e : ErrKind) (s : State) :
    (raise e s).fbMem = s.fbMem := by cases e <;> rfl
@[simp] theorem raise_opc (e : ErrKind) (s : State) :
    (raise e s).opc = s.opc := by cases e <;> rfl
@[simp] theorem raise_f (e : ErrKind) (s : State) :
    (raise e s).f = s.f := by cases e <;> rfl
@[simp] theorem raise_a0 (e : ErrKind) (s : State) :
    (raise e s).a0 = s.a0 := by cases e <;> rfl
@[simp] theorem raise_a1 (e : ErrKind) (s : State) :
    (raise e s).a1 = s.a1 := by cases e <;> rfl
@[simp] theorem raise_a2 (e : ErrKind) (s : State) :
    (raise e s).a2 = s.a2 := by cases e <;> rfl
@[simp] theorem raise_a3 (e : ErrKind) (s : State) :
    (raise e s).a3 = s.a3 := by cases e <;> rfl
@[simp] theorem raise_srcBase (e : ErrKind) (s : State) :
    (raise e s).srcBase = s.srcBase := by cases e <;> rfl
@[simp] theorem raise_srcLen (e : ErrKind) (s : State) :
    (raise e s).srcLen = s.srcLen := by cases e <;> rfl
@[simp] theorem raise_ustep (e : ErrKind) (s : State) :
    (raise e s).ustep = s.ustep := by cases e <;> rfl
@[simp] theorem raise_active (e : ErrKind) (s : State) :
    (raise e s).active = false := by cases e <;> rfl
@[simp] theorem raise_err (e : ErrKind) (s : State) :
    (raise e s).err = some e := by cases e <;> rfl
@[simp] theorem raise_phase (e : ErrKind) (s : State) :
    (raise e s).phase = if e.isRunTime then .uninitialized else s.phase := by cases e <;> rfl
@[simp] theorem raise_mode (e : ErrKind) (s : State) :
    (raise e s).mode = s.mode := by cases e <;> rfl
@[simp] theorem raise_modeValid (e : ErrKind) (s : State) :
    (raise e s).modeValid = if e.isRunTime then false else s.modeValid := by cases e <;> rfl
@[simp] theorem raise_borderWhite (e : ErrKind) (s : State) :
    (raise e s).borderWhite = s.borderWhite := by cases e <;> rfl
@[simp] theorem raise_borderValid (e : ErrKind) (s : State) :
    (raise e s).borderValid = if e.isRunTime then false else s.borderValid := by cases e <;> rfl
@[simp] theorem raise_awXStart (e : ErrKind) (s : State) :
    (raise e s).awXStart = s.awXStart := by cases e <;> rfl
@[simp] theorem raise_awXEnd (e : ErrKind) (s : State) :
    (raise e s).awXEnd = s.awXEnd := by cases e <;> rfl
@[simp] theorem raise_awYStart (e : ErrKind) (s : State) :
    (raise e s).awYStart = s.awYStart := by cases e <;> rfl
@[simp] theorem raise_awYEnd (e : ErrKind) (s : State) :
    (raise e s).awYEnd = s.awYEnd := by cases e <;> rfl
@[simp] theorem raise_awValid (e : ErrKind) (s : State) :
    (raise e s).awValid = if e.isRunTime then false else s.awValid := by cases e <;> rfl
@[simp] theorem raise_polls (e : ErrKind) (s : State) :
    (raise e s).polls = 0 := by cases e <;> rfl
@[simp] theorem raise_resetOut (e : ErrKind) (s : State) :
    (raise e s).resetOut = s.resetOut := by cases e <;> rfl
@[simp] theorem raise_src (e : ErrKind) (s : State) :
    (raise e s).src = s.src := by cases e <;> rfl
@[simp] theorem raise_hostQueue (e : ErrKind) (s : State) :
    (raise e s).hostQueue = s.hostQueue := by cases e <;> rfl
@[simp] theorem raise_busIn (e : ErrKind) (s : State) :
    (raise e s).busIn = s.busIn := by cases e <;> rfl
@[simp] theorem raise_busyIn (e : ErrKind) (s : State) :
    (raise e s).busyIn = s.busyIn := by cases e <;> rfl
@[simp] theorem raise_resetIn (e : ErrKind) (s : State) :
    (raise e s).resetIn = s.resetIn := by cases e <;> rfl
@[simp] theorem raise_draws (e : ErrKind) (s : State) :
    (raise e s).draws = s.draws := by cases e <;> rfl
@[simp] theorem raise_epoch (e : ErrKind) (s : State) :
    (raise e s).epoch = s.epoch := by cases e <;> rfl
@[simp] theorem raise_trace (e : ErrKind) (s : State) :
    (raise e s).trace = s.trace := by cases e <;> rfl
@[simp] theorem raise_issued (e : ErrKind) (s : State) :
    (raise e s).issued = none := by cases e <;> rfl

/-! ### `setWindow` -/

@[simp] theorem setWindow_cfg (xs xe ys ye : Nat) (s : State) :
    (setWindow xs xe ys ye s).cfg = s.cfg := rfl
@[simp] theorem setWindow_fbMem (xs xe ys ye : Nat) (s : State) :
    (setWindow xs xe ys ye s).fbMem = s.fbMem := rfl
@[simp] theorem setWindow_opc (xs xe ys ye : Nat) (s : State) :
    (setWindow xs xe ys ye s).opc = s.opc := rfl
@[simp] theorem setWindow_f (xs xe ys ye : Nat) (s : State) :
    (setWindow xs xe ys ye s).f = s.f := rfl
@[simp] theorem setWindow_a0 (xs xe ys ye : Nat) (s : State) :
    (setWindow xs xe ys ye s).a0 = s.a0 := rfl
@[simp] theorem setWindow_a1 (xs xe ys ye : Nat) (s : State) :
    (setWindow xs xe ys ye s).a1 = s.a1 := rfl
@[simp] theorem setWindow_a2 (xs xe ys ye : Nat) (s : State) :
    (setWindow xs xe ys ye s).a2 = s.a2 := rfl
@[simp] theorem setWindow_a3 (xs xe ys ye : Nat) (s : State) :
    (setWindow xs xe ys ye s).a3 = s.a3 := rfl
@[simp] theorem setWindow_srcBase (xs xe ys ye : Nat) (s : State) :
    (setWindow xs xe ys ye s).srcBase = s.srcBase := rfl
@[simp] theorem setWindow_srcLen (xs xe ys ye : Nat) (s : State) :
    (setWindow xs xe ys ye s).srcLen = s.srcLen := rfl
@[simp] theorem setWindow_ustep (xs xe ys ye : Nat) (s : State) :
    (setWindow xs xe ys ye s).ustep = s.ustep := rfl
@[simp] theorem setWindow_active (xs xe ys ye : Nat) (s : State) :
    (setWindow xs xe ys ye s).active = s.active := rfl
@[simp] theorem setWindow_err (xs xe ys ye : Nat) (s : State) :
    (setWindow xs xe ys ye s).err = s.err := rfl
@[simp] theorem setWindow_phase (xs xe ys ye : Nat) (s : State) :
    (setWindow xs xe ys ye s).phase = s.phase := rfl
@[simp] theorem setWindow_mode (xs xe ys ye : Nat) (s : State) :
    (setWindow xs xe ys ye s).mode = s.mode := rfl
@[simp] theorem setWindow_modeValid (xs xe ys ye : Nat) (s : State) :
    (setWindow xs xe ys ye s).modeValid = s.modeValid := rfl
@[simp] theorem setWindow_borderWhite (xs xe ys ye : Nat) (s : State) :
    (setWindow xs xe ys ye s).borderWhite = s.borderWhite := rfl
@[simp] theorem setWindow_borderValid (xs xe ys ye : Nat) (s : State) :
    (setWindow xs xe ys ye s).borderValid = s.borderValid := rfl
@[simp] theorem setWindow_awXStart (xs xe ys ye : Nat) (s : State) :
    (setWindow xs xe ys ye s).awXStart = BitVec.ofNat 16 xs := rfl
@[simp] theorem setWindow_awXEnd (xs xe ys ye : Nat) (s : State) :
    (setWindow xs xe ys ye s).awXEnd = BitVec.ofNat 16 xe := rfl
@[simp] theorem setWindow_awYStart (xs xe ys ye : Nat) (s : State) :
    (setWindow xs xe ys ye s).awYStart = BitVec.ofNat 16 ys := rfl
@[simp] theorem setWindow_awYEnd (xs xe ys ye : Nat) (s : State) :
    (setWindow xs xe ys ye s).awYEnd = BitVec.ofNat 16 ye := rfl
@[simp] theorem setWindow_awValid (xs xe ys ye : Nat) (s : State) :
    (setWindow xs xe ys ye s).awValid = true := rfl
@[simp] theorem setWindow_polls (xs xe ys ye : Nat) (s : State) :
    (setWindow xs xe ys ye s).polls = s.polls := rfl
@[simp] theorem setWindow_resetOut (xs xe ys ye : Nat) (s : State) :
    (setWindow xs xe ys ye s).resetOut = s.resetOut := rfl
@[simp] theorem setWindow_src (xs xe ys ye : Nat) (s : State) :
    (setWindow xs xe ys ye s).src = s.src := rfl
@[simp] theorem setWindow_hostQueue (xs xe ys ye : Nat) (s : State) :
    (setWindow xs xe ys ye s).hostQueue = s.hostQueue := rfl
@[simp] theorem setWindow_busIn (xs xe ys ye : Nat) (s : State) :
    (setWindow xs xe ys ye s).busIn = s.busIn := rfl
@[simp] theorem setWindow_busyIn (xs xe ys ye : Nat) (s : State) :
    (setWindow xs xe ys ye s).busyIn = s.busyIn := rfl
@[simp] theorem setWindow_resetIn (xs xe ys ye : Nat) (s : State) :
    (setWindow xs xe ys ye s).resetIn = s.resetIn := rfl
@[simp] theorem setWindow_draws (xs xe ys ye : Nat) (s : State) :
    (setWindow xs xe ys ye s).draws = s.draws := rfl
@[simp] theorem setWindow_epoch (xs xe ys ye : Nat) (s : State) :
    (setWindow xs xe ys ye s).epoch = s.epoch := rfl
@[simp] theorem setWindow_trace (xs xe ys ye : Nat) (s : State) :
    (setWindow xs xe ys ye s).trace = s.trace := rfl
@[simp] theorem setWindow_issued (xs xe ys ye : Nat) (s : State) :
    (setWindow xs xe ys ye s).issued = s.issued := rfl

/-! ### `setBorderReg` -/

@[simp] theorem setBorderReg_cfg (w : Bool) (s : State) :
    (setBorderReg w s).cfg = s.cfg := rfl
@[simp] theorem setBorderReg_fbMem (w : Bool) (s : State) :
    (setBorderReg w s).fbMem = s.fbMem := rfl
@[simp] theorem setBorderReg_opc (w : Bool) (s : State) :
    (setBorderReg w s).opc = s.opc := rfl
@[simp] theorem setBorderReg_f (w : Bool) (s : State) :
    (setBorderReg w s).f = s.f := rfl
@[simp] theorem setBorderReg_a0 (w : Bool) (s : State) :
    (setBorderReg w s).a0 = s.a0 := rfl
@[simp] theorem setBorderReg_a1 (w : Bool) (s : State) :
    (setBorderReg w s).a1 = s.a1 := rfl
@[simp] theorem setBorderReg_a2 (w : Bool) (s : State) :
    (setBorderReg w s).a2 = s.a2 := rfl
@[simp] theorem setBorderReg_a3 (w : Bool) (s : State) :
    (setBorderReg w s).a3 = s.a3 := rfl
@[simp] theorem setBorderReg_srcBase (w : Bool) (s : State) :
    (setBorderReg w s).srcBase = s.srcBase := rfl
@[simp] theorem setBorderReg_srcLen (w : Bool) (s : State) :
    (setBorderReg w s).srcLen = s.srcLen := rfl
@[simp] theorem setBorderReg_ustep (w : Bool) (s : State) :
    (setBorderReg w s).ustep = s.ustep := rfl
@[simp] theorem setBorderReg_active (w : Bool) (s : State) :
    (setBorderReg w s).active = s.active := rfl
@[simp] theorem setBorderReg_err (w : Bool) (s : State) :
    (setBorderReg w s).err = s.err := rfl
@[simp] theorem setBorderReg_phase (w : Bool) (s : State) :
    (setBorderReg w s).phase = s.phase := rfl
@[simp] theorem setBorderReg_mode (w : Bool) (s : State) :
    (setBorderReg w s).mode = s.mode := rfl
@[simp] theorem setBorderReg_modeValid (w : Bool) (s : State) :
    (setBorderReg w s).modeValid = s.modeValid := rfl
@[simp] theorem setBorderReg_borderWhite (w : Bool) (s : State) :
    (setBorderReg w s).borderWhite = w := rfl
@[simp] theorem setBorderReg_borderValid (w : Bool) (s : State) :
    (setBorderReg w s).borderValid = true := rfl
@[simp] theorem setBorderReg_awXStart (w : Bool) (s : State) :
    (setBorderReg w s).awXStart = s.awXStart := rfl
@[simp] theorem setBorderReg_awXEnd (w : Bool) (s : State) :
    (setBorderReg w s).awXEnd = s.awXEnd := rfl
@[simp] theorem setBorderReg_awYStart (w : Bool) (s : State) :
    (setBorderReg w s).awYStart = s.awYStart := rfl
@[simp] theorem setBorderReg_awYEnd (w : Bool) (s : State) :
    (setBorderReg w s).awYEnd = s.awYEnd := rfl
@[simp] theorem setBorderReg_awValid (w : Bool) (s : State) :
    (setBorderReg w s).awValid = s.awValid := rfl
@[simp] theorem setBorderReg_polls (w : Bool) (s : State) :
    (setBorderReg w s).polls = s.polls := rfl
@[simp] theorem setBorderReg_resetOut (w : Bool) (s : State) :
    (setBorderReg w s).resetOut = s.resetOut := rfl
@[simp] theorem setBorderReg_src (w : Bool) (s : State) :
    (setBorderReg w s).src = s.src := rfl
@[simp] theorem setBorderReg_hostQueue (w : Bool) (s : State) :
    (setBorderReg w s).hostQueue = s.hostQueue := rfl
@[simp] theorem setBorderReg_busIn (w : Bool) (s : State) :
    (setBorderReg w s).busIn = s.busIn := rfl
@[simp] theorem setBorderReg_busyIn (w : Bool) (s : State) :
    (setBorderReg w s).busyIn = s.busyIn := rfl
@[simp] theorem setBorderReg_resetIn (w : Bool) (s : State) :
    (setBorderReg w s).resetIn = s.resetIn := rfl
@[simp] theorem setBorderReg_draws (w : Bool) (s : State) :
    (setBorderReg w s).draws = s.draws := rfl
@[simp] theorem setBorderReg_epoch (w : Bool) (s : State) :
    (setBorderReg w s).epoch = s.epoch := rfl
@[simp] theorem setBorderReg_trace (w : Bool) (s : State) :
    (setBorderReg w s).trace = s.trace := rfl
@[simp] theorem setBorderReg_issued (w : Bool) (s : State) :
    (setBorderReg w s).issued = s.issued := rfl

/-! ### `setPhase` -/

@[simp] theorem setPhase_cfg (p : Phase) (s : State) :
    (setPhase p s).cfg = s.cfg := rfl
@[simp] theorem setPhase_fbMem (p : Phase) (s : State) :
    (setPhase p s).fbMem = s.fbMem := rfl
@[simp] theorem setPhase_opc (p : Phase) (s : State) :
    (setPhase p s).opc = s.opc := rfl
@[simp] theorem setPhase_f (p : Phase) (s : State) :
    (setPhase p s).f = s.f := rfl
@[simp] theorem setPhase_a0 (p : Phase) (s : State) :
    (setPhase p s).a0 = s.a0 := rfl
@[simp] theorem setPhase_a1 (p : Phase) (s : State) :
    (setPhase p s).a1 = s.a1 := rfl
@[simp] theorem setPhase_a2 (p : Phase) (s : State) :
    (setPhase p s).a2 = s.a2 := rfl
@[simp] theorem setPhase_a3 (p : Phase) (s : State) :
    (setPhase p s).a3 = s.a3 := rfl
@[simp] theorem setPhase_srcBase (p : Phase) (s : State) :
    (setPhase p s).srcBase = s.srcBase := rfl
@[simp] theorem setPhase_srcLen (p : Phase) (s : State) :
    (setPhase p s).srcLen = s.srcLen := rfl
@[simp] theorem setPhase_ustep (p : Phase) (s : State) :
    (setPhase p s).ustep = s.ustep := rfl
@[simp] theorem setPhase_active (p : Phase) (s : State) :
    (setPhase p s).active = s.active := rfl
@[simp] theorem setPhase_err (p : Phase) (s : State) :
    (setPhase p s).err = s.err := rfl
@[simp] theorem setPhase_phase (p : Phase) (s : State) :
    (setPhase p s).phase = p := rfl
@[simp] theorem setPhase_mode (p : Phase) (s : State) :
    (setPhase p s).mode = s.mode := rfl
@[simp] theorem setPhase_modeValid (p : Phase) (s : State) :
    (setPhase p s).modeValid = s.modeValid := rfl
@[simp] theorem setPhase_borderWhite (p : Phase) (s : State) :
    (setPhase p s).borderWhite = s.borderWhite := rfl
@[simp] theorem setPhase_borderValid (p : Phase) (s : State) :
    (setPhase p s).borderValid = s.borderValid := rfl
@[simp] theorem setPhase_awXStart (p : Phase) (s : State) :
    (setPhase p s).awXStart = s.awXStart := rfl
@[simp] theorem setPhase_awXEnd (p : Phase) (s : State) :
    (setPhase p s).awXEnd = s.awXEnd := rfl
@[simp] theorem setPhase_awYStart (p : Phase) (s : State) :
    (setPhase p s).awYStart = s.awYStart := rfl
@[simp] theorem setPhase_awYEnd (p : Phase) (s : State) :
    (setPhase p s).awYEnd = s.awYEnd := rfl
@[simp] theorem setPhase_awValid (p : Phase) (s : State) :
    (setPhase p s).awValid = s.awValid := rfl
@[simp] theorem setPhase_polls (p : Phase) (s : State) :
    (setPhase p s).polls = s.polls := rfl
@[simp] theorem setPhase_resetOut (p : Phase) (s : State) :
    (setPhase p s).resetOut = s.resetOut := rfl
@[simp] theorem setPhase_src (p : Phase) (s : State) :
    (setPhase p s).src = s.src := rfl
@[simp] theorem setPhase_hostQueue (p : Phase) (s : State) :
    (setPhase p s).hostQueue = s.hostQueue := rfl
@[simp] theorem setPhase_busIn (p : Phase) (s : State) :
    (setPhase p s).busIn = s.busIn := rfl
@[simp] theorem setPhase_busyIn (p : Phase) (s : State) :
    (setPhase p s).busyIn = s.busyIn := rfl
@[simp] theorem setPhase_resetIn (p : Phase) (s : State) :
    (setPhase p s).resetIn = s.resetIn := rfl
@[simp] theorem setPhase_draws (p : Phase) (s : State) :
    (setPhase p s).draws = s.draws := rfl
@[simp] theorem setPhase_epoch (p : Phase) (s : State) :
    (setPhase p s).epoch = s.epoch := rfl
@[simp] theorem setPhase_trace (p : Phase) (s : State) :
    (setPhase p s).trace = s.trace := rfl
@[simp] theorem setPhase_issued (p : Phase) (s : State) :
    (setPhase p s).issued = s.issued := rfl

/-! ### `initAccept` -/

@[simp] theorem initAccept_cfg (s : State) :
    (initAccept s).cfg = s.cfg := rfl
@[simp] theorem initAccept_fbMem (s : State) :
    (initAccept s).fbMem = s.fbMem := rfl
@[simp] theorem initAccept_opc (s : State) :
    (initAccept s).opc = s.opc := rfl
@[simp] theorem initAccept_f (s : State) :
    (initAccept s).f = s.f := rfl
@[simp] theorem initAccept_a0 (s : State) :
    (initAccept s).a0 = s.a0 := rfl
@[simp] theorem initAccept_a1 (s : State) :
    (initAccept s).a1 = s.a1 := rfl
@[simp] theorem initAccept_a2 (s : State) :
    (initAccept s).a2 = s.a2 := rfl
@[simp] theorem initAccept_a3 (s : State) :
    (initAccept s).a3 = s.a3 := rfl
@[simp] theorem initAccept_srcBase (s : State) :
    (initAccept s).srcBase = s.srcBase := rfl
@[simp] theorem initAccept_srcLen (s : State) :
    (initAccept s).srcLen = s.srcLen := rfl
@[simp] theorem initAccept_ustep (s : State) :
    (initAccept s).ustep = s.ustep := rfl
@[simp] theorem initAccept_active (s : State) :
    (initAccept s).active = s.active := rfl
@[simp] theorem initAccept_err (s : State) :
    (initAccept s).err = s.err := rfl
@[simp] theorem initAccept_phase (s : State) :
    (initAccept s).phase = .resetting := rfl
@[simp] theorem initAccept_mode (s : State) :
    (initAccept s).mode = s.mode := rfl
@[simp] theorem initAccept_modeValid (s : State) :
    (initAccept s).modeValid = false := rfl
@[simp] theorem initAccept_borderWhite (s : State) :
    (initAccept s).borderWhite = s.borderWhite := rfl
@[simp] theorem initAccept_borderValid (s : State) :
    (initAccept s).borderValid = false := rfl
@[simp] theorem initAccept_awXStart (s : State) :
    (initAccept s).awXStart = s.awXStart := rfl
@[simp] theorem initAccept_awXEnd (s : State) :
    (initAccept s).awXEnd = s.awXEnd := rfl
@[simp] theorem initAccept_awYStart (s : State) :
    (initAccept s).awYStart = s.awYStart := rfl
@[simp] theorem initAccept_awYEnd (s : State) :
    (initAccept s).awYEnd = s.awYEnd := rfl
@[simp] theorem initAccept_awValid (s : State) :
    (initAccept s).awValid = false := rfl
@[simp] theorem initAccept_polls (s : State) :
    (initAccept s).polls = s.polls := rfl
@[simp] theorem initAccept_resetOut (s : State) :
    (initAccept s).resetOut = s.resetOut := rfl
@[simp] theorem initAccept_src (s : State) :
    (initAccept s).src = s.src := rfl
@[simp] theorem initAccept_hostQueue (s : State) :
    (initAccept s).hostQueue = s.hostQueue := rfl
@[simp] theorem initAccept_busIn (s : State) :
    (initAccept s).busIn = s.busIn := rfl
@[simp] theorem initAccept_busyIn (s : State) :
    (initAccept s).busyIn = s.busyIn := rfl
@[simp] theorem initAccept_resetIn (s : State) :
    (initAccept s).resetIn = s.resetIn := rfl
@[simp] theorem initAccept_draws (s : State) :
    (initAccept s).draws = s.draws := rfl
@[simp] theorem initAccept_epoch (s : State) :
    (initAccept s).epoch = s.epoch := rfl
@[simp] theorem initAccept_trace (s : State) :
    (initAccept s).trace = s.trace := rfl
@[simp] theorem initAccept_issued (s : State) :
    (initAccept s).issued = s.issued := rfl

/-! ### `storeSrc` -/

@[simp] theorem storeSrc_cfg (a : Word) (v : Byte) (s : State) :
    (storeSrc a v s).cfg = s.cfg := rfl
@[simp] theorem storeSrc_fbMem (a : Word) (v : Byte) (s : State) :
    (storeSrc a v s).fbMem = s.fbMem := rfl
@[simp] theorem storeSrc_opc (a : Word) (v : Byte) (s : State) :
    (storeSrc a v s).opc = s.opc := rfl
@[simp] theorem storeSrc_f (a : Word) (v : Byte) (s : State) :
    (storeSrc a v s).f = s.f := rfl
@[simp] theorem storeSrc_a0 (a : Word) (v : Byte) (s : State) :
    (storeSrc a v s).a0 = s.a0 := rfl
@[simp] theorem storeSrc_a1 (a : Word) (v : Byte) (s : State) :
    (storeSrc a v s).a1 = s.a1 := rfl
@[simp] theorem storeSrc_a2 (a : Word) (v : Byte) (s : State) :
    (storeSrc a v s).a2 = s.a2 := rfl
@[simp] theorem storeSrc_a3 (a : Word) (v : Byte) (s : State) :
    (storeSrc a v s).a3 = s.a3 := rfl
@[simp] theorem storeSrc_srcBase (a : Word) (v : Byte) (s : State) :
    (storeSrc a v s).srcBase = s.srcBase := rfl
@[simp] theorem storeSrc_srcLen (a : Word) (v : Byte) (s : State) :
    (storeSrc a v s).srcLen = s.srcLen := rfl
@[simp] theorem storeSrc_ustep (a : Word) (v : Byte) (s : State) :
    (storeSrc a v s).ustep = s.ustep := rfl
@[simp] theorem storeSrc_active (a : Word) (v : Byte) (s : State) :
    (storeSrc a v s).active = s.active := rfl
@[simp] theorem storeSrc_err (a : Word) (v : Byte) (s : State) :
    (storeSrc a v s).err = s.err := rfl
@[simp] theorem storeSrc_phase (a : Word) (v : Byte) (s : State) :
    (storeSrc a v s).phase = s.phase := rfl
@[simp] theorem storeSrc_mode (a : Word) (v : Byte) (s : State) :
    (storeSrc a v s).mode = s.mode := rfl
@[simp] theorem storeSrc_modeValid (a : Word) (v : Byte) (s : State) :
    (storeSrc a v s).modeValid = s.modeValid := rfl
@[simp] theorem storeSrc_borderWhite (a : Word) (v : Byte) (s : State) :
    (storeSrc a v s).borderWhite = s.borderWhite := rfl
@[simp] theorem storeSrc_borderValid (a : Word) (v : Byte) (s : State) :
    (storeSrc a v s).borderValid = s.borderValid := rfl
@[simp] theorem storeSrc_awXStart (a : Word) (v : Byte) (s : State) :
    (storeSrc a v s).awXStart = s.awXStart := rfl
@[simp] theorem storeSrc_awXEnd (a : Word) (v : Byte) (s : State) :
    (storeSrc a v s).awXEnd = s.awXEnd := rfl
@[simp] theorem storeSrc_awYStart (a : Word) (v : Byte) (s : State) :
    (storeSrc a v s).awYStart = s.awYStart := rfl
@[simp] theorem storeSrc_awYEnd (a : Word) (v : Byte) (s : State) :
    (storeSrc a v s).awYEnd = s.awYEnd := rfl
@[simp] theorem storeSrc_awValid (a : Word) (v : Byte) (s : State) :
    (storeSrc a v s).awValid = s.awValid := rfl
@[simp] theorem storeSrc_polls (a : Word) (v : Byte) (s : State) :
    (storeSrc a v s).polls = s.polls := rfl
@[simp] theorem storeSrc_resetOut (a : Word) (v : Byte) (s : State) :
    (storeSrc a v s).resetOut = s.resetOut := rfl
@[simp] theorem storeSrc_src (a : Word) (v : Byte) (s : State) :
    (storeSrc a v s).src = s.src.write a.toNat v := rfl
@[simp] theorem storeSrc_hostQueue (a : Word) (v : Byte) (s : State) :
    (storeSrc a v s).hostQueue = s.hostQueue := rfl
@[simp] theorem storeSrc_busIn (a : Word) (v : Byte) (s : State) :
    (storeSrc a v s).busIn = s.busIn := rfl
@[simp] theorem storeSrc_busyIn (a : Word) (v : Byte) (s : State) :
    (storeSrc a v s).busyIn = s.busyIn := rfl
@[simp] theorem storeSrc_resetIn (a : Word) (v : Byte) (s : State) :
    (storeSrc a v s).resetIn = s.resetIn := rfl
@[simp] theorem storeSrc_draws (a : Word) (v : Byte) (s : State) :
    (storeSrc a v s).draws = s.draws := rfl
@[simp] theorem storeSrc_epoch (a : Word) (v : Byte) (s : State) :
    (storeSrc a v s).epoch = s.epoch := rfl
@[simp] theorem storeSrc_trace (a : Word) (v : Byte) (s : State) :
    (storeSrc a v s).trace = s.trace := rfl
@[simp] theorem storeSrc_issued (a : Word) (v : Byte) (s : State) :
    (storeSrc a v s).issued = s.issued := rfl

/-! ### `blockReset` -/

@[simp] theorem blockReset_cfg (s : State) :
    (blockReset s).cfg = s.cfg := rfl
@[simp] theorem blockReset_fbMem (s : State) :
    (blockReset s).fbMem = [] := rfl
@[simp] theorem blockReset_opc (s : State) :
    (blockReset s).opc = (Config.freeAtReset (s.epoch + 1)).opc := rfl
@[simp] theorem blockReset_f (s : State) :
    (blockReset s).f = (Config.freeAtReset (s.epoch + 1)).f := rfl
@[simp] theorem blockReset_a0 (s : State) :
    (blockReset s).a0 = (Config.freeAtReset (s.epoch + 1)).a0 := rfl
@[simp] theorem blockReset_a1 (s : State) :
    (blockReset s).a1 = (Config.freeAtReset (s.epoch + 1)).a1 := rfl
@[simp] theorem blockReset_a2 (s : State) :
    (blockReset s).a2 = (Config.freeAtReset (s.epoch + 1)).a2 := rfl
@[simp] theorem blockReset_a3 (s : State) :
    (blockReset s).a3 = (Config.freeAtReset (s.epoch + 1)).a3 := rfl
@[simp] theorem blockReset_srcBase (s : State) :
    (blockReset s).srcBase = (Config.freeAtReset (s.epoch + 1)).srcBase := rfl
@[simp] theorem blockReset_srcLen (s : State) :
    (blockReset s).srcLen = (Config.freeAtReset (s.epoch + 1)).srcLen := rfl
@[simp] theorem blockReset_ustep (s : State) :
    (blockReset s).ustep = 0 := rfl
@[simp] theorem blockReset_active (s : State) :
    (blockReset s).active = false := rfl
@[simp] theorem blockReset_err (s : State) :
    (blockReset s).err = none := rfl
@[simp] theorem blockReset_phase (s : State) :
    (blockReset s).phase = .uninitialized := rfl
@[simp] theorem blockReset_mode (s : State) :
    (blockReset s).mode = (Config.freeAtReset (s.epoch + 1)).mode := rfl
@[simp] theorem blockReset_modeValid (s : State) :
    (blockReset s).modeValid = false := rfl
@[simp] theorem blockReset_borderWhite (s : State) :
    (blockReset s).borderWhite = (Config.freeAtReset (s.epoch + 1)).borderWhite := rfl
@[simp] theorem blockReset_borderValid (s : State) :
    (blockReset s).borderValid = false := rfl
@[simp] theorem blockReset_awXStart (s : State) :
    (blockReset s).awXStart = (Config.freeAtReset (s.epoch + 1)).awXStart := rfl
@[simp] theorem blockReset_awXEnd (s : State) :
    (blockReset s).awXEnd = (Config.freeAtReset (s.epoch + 1)).awXEnd := rfl
@[simp] theorem blockReset_awYStart (s : State) :
    (blockReset s).awYStart = (Config.freeAtReset (s.epoch + 1)).awYStart := rfl
@[simp] theorem blockReset_awYEnd (s : State) :
    (blockReset s).awYEnd = (Config.freeAtReset (s.epoch + 1)).awYEnd := rfl
@[simp] theorem blockReset_awValid (s : State) :
    (blockReset s).awValid = false := rfl
@[simp] theorem blockReset_polls (s : State) :
    (blockReset s).polls = 0 := rfl
@[simp] theorem blockReset_resetOut (s : State) :
    (blockReset s).resetOut = false := rfl
@[simp] theorem blockReset_src (s : State) :
    (blockReset s).src = s.src := rfl
@[simp] theorem blockReset_hostQueue (s : State) :
    (blockReset s).hostQueue = s.hostQueue := rfl
@[simp] theorem blockReset_busIn (s : State) :
    (blockReset s).busIn = s.busIn := rfl
@[simp] theorem blockReset_busyIn (s : State) :
    (blockReset s).busyIn = s.busyIn := rfl
@[simp] theorem blockReset_resetIn (s : State) :
    (blockReset s).resetIn = false := rfl
@[simp] theorem blockReset_draws (s : State) :
    (blockReset s).draws = s.draws := rfl
@[simp] theorem blockReset_epoch (s : State) :
    (blockReset s).epoch = s.epoch + 1 := rfl
@[simp] theorem blockReset_trace (s : State) :
    (blockReset s).trace = [] := rfl
@[simp] theorem blockReset_issued (s : State) :
    (blockReset s).issued = none := rfl

/-! ### `afterBus` -/

@[simp] theorem afterBus_cfg (s : State) :
    (afterBus s).cfg = s.cfg := by unfold afterBus; split <;> rfl
@[simp] theorem afterBus_fbMem (s : State) :
    (afterBus s).fbMem = s.fbMem := by unfold afterBus; split <;> rfl
@[simp] theorem afterBus_opc (s : State) :
    (afterBus s).opc = s.opc := by unfold afterBus; split <;> rfl
@[simp] theorem afterBus_f (s : State) :
    (afterBus s).f = s.f := by unfold afterBus; split <;> rfl
@[simp] theorem afterBus_a0 (s : State) :
    (afterBus s).a0 = s.a0 := by unfold afterBus; split <;> rfl
@[simp] theorem afterBus_a1 (s : State) :
    (afterBus s).a1 = s.a1 := by unfold afterBus; split <;> rfl
@[simp] theorem afterBus_a2 (s : State) :
    (afterBus s).a2 = s.a2 := by unfold afterBus; split <;> rfl
@[simp] theorem afterBus_a3 (s : State) :
    (afterBus s).a3 = s.a3 := by unfold afterBus; split <;> rfl
@[simp] theorem afterBus_srcBase (s : State) :
    (afterBus s).srcBase = s.srcBase := by unfold afterBus; split <;> rfl
@[simp] theorem afterBus_srcLen (s : State) :
    (afterBus s).srcLen = s.srcLen := by unfold afterBus; split <;> rfl
@[simp] theorem afterBus_ustep (s : State) :
    (afterBus s).ustep = s.ustep := by unfold afterBus; split <;> rfl
@[simp] theorem afterBus_active (s : State) :
    (afterBus s).active = s.active := by unfold afterBus; split <;> rfl
@[simp] theorem afterBus_err (s : State) :
    (afterBus s).err = s.err := by unfold afterBus; split <;> rfl
@[simp] theorem afterBus_phase (s : State) :
    (afterBus s).phase = s.phase := by unfold afterBus; split <;> rfl
@[simp] theorem afterBus_mode (s : State) :
    (afterBus s).mode = s.mode := by unfold afterBus; split <;> rfl
@[simp] theorem afterBus_modeValid (s : State) :
    (afterBus s).modeValid = s.modeValid := by unfold afterBus; split <;> rfl
@[simp] theorem afterBus_borderWhite (s : State) :
    (afterBus s).borderWhite = s.borderWhite := by unfold afterBus; split <;> rfl
@[simp] theorem afterBus_borderValid (s : State) :
    (afterBus s).borderValid = s.borderValid := by unfold afterBus; split <;> rfl
@[simp] theorem afterBus_awXStart (s : State) :
    (afterBus s).awXStart = s.awXStart := by unfold afterBus; split <;> rfl
@[simp] theorem afterBus_awXEnd (s : State) :
    (afterBus s).awXEnd = s.awXEnd := by unfold afterBus; split <;> rfl
@[simp] theorem afterBus_awYStart (s : State) :
    (afterBus s).awYStart = s.awYStart := by unfold afterBus; split <;> rfl
@[simp] theorem afterBus_awYEnd (s : State) :
    (afterBus s).awYEnd = s.awYEnd := by unfold afterBus; split <;> rfl
@[simp] theorem afterBus_awValid (s : State) :
    (afterBus s).awValid = s.awValid := by unfold afterBus; split <;> rfl
@[simp] theorem afterBus_polls (s : State) :
    (afterBus s).polls = s.polls := by unfold afterBus; split <;> rfl
@[simp] theorem afterBus_resetOut (s : State) :
    (afterBus s).resetOut = s.resetOut := by unfold afterBus; split <;> rfl
@[simp] theorem afterBus_src (s : State) :
    (afterBus s).src = s.src := by unfold afterBus; split <;> rfl
@[simp] theorem afterBus_hostQueue (s : State) :
    (afterBus s).hostQueue = s.hostQueue := by unfold afterBus; split <;> rfl
@[simp] theorem afterBus_busyIn (s : State) :
    (afterBus s).busyIn = s.busyIn := by unfold afterBus; split <;> rfl
@[simp] theorem afterBus_resetIn (s : State) :
    (afterBus s).resetIn = s.resetIn := by unfold afterBus; split <;> rfl
@[simp] theorem afterBus_epoch (s : State) :
    (afterBus s).epoch = s.epoch := by unfold afterBus; split <;> rfl
@[simp] theorem afterBus_trace (s : State) :
    (afterBus s).trace = s.trace := by unfold afterBus; split <;> rfl
@[simp] theorem afterBus_issued (s : State) :
    (afterBus s).issued = s.issued := by unfold afterBus; split <;> rfl

/-! ### `afterBusy` -/

@[simp] theorem afterBusy_cfg (s : State) :
    (afterBusy s).cfg = s.cfg := by unfold afterBusy; split <;> rfl
@[simp] theorem afterBusy_fbMem (s : State) :
    (afterBusy s).fbMem = s.fbMem := by unfold afterBusy; split <;> rfl
@[simp] theorem afterBusy_opc (s : State) :
    (afterBusy s).opc = s.opc := by unfold afterBusy; split <;> rfl
@[simp] theorem afterBusy_f (s : State) :
    (afterBusy s).f = s.f := by unfold afterBusy; split <;> rfl
@[simp] theorem afterBusy_a0 (s : State) :
    (afterBusy s).a0 = s.a0 := by unfold afterBusy; split <;> rfl
@[simp] theorem afterBusy_a1 (s : State) :
    (afterBusy s).a1 = s.a1 := by unfold afterBusy; split <;> rfl
@[simp] theorem afterBusy_a2 (s : State) :
    (afterBusy s).a2 = s.a2 := by unfold afterBusy; split <;> rfl
@[simp] theorem afterBusy_a3 (s : State) :
    (afterBusy s).a3 = s.a3 := by unfold afterBusy; split <;> rfl
@[simp] theorem afterBusy_srcBase (s : State) :
    (afterBusy s).srcBase = s.srcBase := by unfold afterBusy; split <;> rfl
@[simp] theorem afterBusy_srcLen (s : State) :
    (afterBusy s).srcLen = s.srcLen := by unfold afterBusy; split <;> rfl
@[simp] theorem afterBusy_ustep (s : State) :
    (afterBusy s).ustep = s.ustep := by unfold afterBusy; split <;> rfl
@[simp] theorem afterBusy_active (s : State) :
    (afterBusy s).active = s.active := by unfold afterBusy; split <;> rfl
@[simp] theorem afterBusy_err (s : State) :
    (afterBusy s).err = s.err := by unfold afterBusy; split <;> rfl
@[simp] theorem afterBusy_phase (s : State) :
    (afterBusy s).phase = s.phase := by unfold afterBusy; split <;> rfl
@[simp] theorem afterBusy_mode (s : State) :
    (afterBusy s).mode = s.mode := by unfold afterBusy; split <;> rfl
@[simp] theorem afterBusy_modeValid (s : State) :
    (afterBusy s).modeValid = s.modeValid := by unfold afterBusy; split <;> rfl
@[simp] theorem afterBusy_borderWhite (s : State) :
    (afterBusy s).borderWhite = s.borderWhite := by unfold afterBusy; split <;> rfl
@[simp] theorem afterBusy_borderValid (s : State) :
    (afterBusy s).borderValid = s.borderValid := by unfold afterBusy; split <;> rfl
@[simp] theorem afterBusy_awXStart (s : State) :
    (afterBusy s).awXStart = s.awXStart := by unfold afterBusy; split <;> rfl
@[simp] theorem afterBusy_awXEnd (s : State) :
    (afterBusy s).awXEnd = s.awXEnd := by unfold afterBusy; split <;> rfl
@[simp] theorem afterBusy_awYStart (s : State) :
    (afterBusy s).awYStart = s.awYStart := by unfold afterBusy; split <;> rfl
@[simp] theorem afterBusy_awYEnd (s : State) :
    (afterBusy s).awYEnd = s.awYEnd := by unfold afterBusy; split <;> rfl
@[simp] theorem afterBusy_awValid (s : State) :
    (afterBusy s).awValid = s.awValid := by unfold afterBusy; split <;> rfl
@[simp] theorem afterBusy_polls (s : State) :
    (afterBusy s).polls = s.polls := by unfold afterBusy; split <;> rfl
@[simp] theorem afterBusy_resetOut (s : State) :
    (afterBusy s).resetOut = s.resetOut := by unfold afterBusy; split <;> rfl
@[simp] theorem afterBusy_src (s : State) :
    (afterBusy s).src = s.src := by unfold afterBusy; split <;> rfl
@[simp] theorem afterBusy_hostQueue (s : State) :
    (afterBusy s).hostQueue = s.hostQueue := by unfold afterBusy; split <;> rfl
@[simp] theorem afterBusy_busIn (s : State) :
    (afterBusy s).busIn = s.busIn := by unfold afterBusy; split <;> rfl
@[simp] theorem afterBusy_resetIn (s : State) :
    (afterBusy s).resetIn = s.resetIn := by unfold afterBusy; split <;> rfl
@[simp] theorem afterBusy_epoch (s : State) :
    (afterBusy s).epoch = s.epoch := by unfold afterBusy; split <;> rfl
@[simp] theorem afterBusy_trace (s : State) :
    (afterBusy s).trace = s.trace := by unfold afterBusy; split <;> rfl
@[simp] theorem afterBusy_issued (s : State) :
    (afterBusy s).issued = s.issued := by unfold afterBusy; split <;> rfl

end Sys2Proof.Machine
end

