-- ==== Sys2Proof/Laws/Framebuffer.lean ====
section
/-! SUPPORT. What the shared operations of the framebuffer unit do. -/

namespace Sys2Proof.Machine

/-- The pairs of a loop nest. -/
@[simp] theorem mem_grid {rows cols : Nat} {p : Nat × Nat} : p ∈ grid rows cols ↔ p.1 < rows ∧ p.2 < cols := by
  simp only [grid, List.mem_flatMap, List.mem_map, List.mem_range]
  constructor
  · rintro ⟨j, hj, k, hk, rfl⟩
    exact ⟨hj, hk⟩
  · rintro ⟨hj, hk⟩
    exact ⟨p.1, hj, p.2, hk, rfl⟩

/-- `storeFb` with every address in range. -/
theorem storeFb_of_inRange {ws : List (Nat × Byte)} {s : State} (h : ∀ w ∈ ws, w.1 < s.cfg.fbSize) :
    storeFb ws s = .next { s with fbMem := s.fbMem.writeAll ws } := by
  rw [storeFb, if_pos]
  simpa using h

/-- Everything `storeFb` can do: store all of the bytes, or fault. -/
theorem storeFb_cases (ws : List (Nat × Byte)) (s : State) :
    ((∀ w ∈ ws, w.1 < s.cfg.fbSize) ∧ storeFb ws s = .next { s with fbMem := s.fbMem.writeAll ws }) ∨
    ((∃ w ∈ ws, s.cfg.fbSize ≤ w.1) ∧ storeFb ws s = .fault .fbAddressOutOfRange) := by
  by_cases h : ∀ w ∈ ws, w.1 < s.cfg.fbSize
  · exact .inl ⟨h, storeFb_of_inRange h⟩
  · refine .inr ⟨by simpa using h, ?_⟩
    rw [storeFb, if_neg]
    simpa using h

/-- A framebuffer store keeps the canonical form. -/
theorem storeFb_wf {ws : List (Nat × Byte)} {s t : State} (h : storeFb ws s = .next t) (hw : s.fbMem.wf) : t.fbMem.wf := by
  rcases storeFb_cases ws s with ⟨_, he⟩ | ⟨_, he⟩ <;> rw [he] at h <;> cases h
  exact Memory.wf_writeAll ws hw

/-- The host's store keeps the canonical form of its memory. -/
theorem storeSrc_wf (a : Word) (v : Byte) {s : State} (hw : s.src.wf) : (storeSrc a v s).src.wf :=
  Memory.wf_write hw a.toNat v

/-- Block reset leaves a canonical framebuffer, and so does the state after reset. -/
theorem blockReset_fbMem_wf (s : State) : (blockReset s).fbMem.wf := List.Pairwise.nil

theorem reset_memory_wf : State.reset.fbMem.wf ∧ State.reset.src.wf := ⟨List.Pairwise.nil, List.Pairwise.nil⟩

/-- `fillAndFinish` with every address in range. -/
theorem fillAndFinish_of_inRange {ws : List (Nat × Byte)} {s : State} (h : ∀ w ∈ ws, w.1 < s.cfg.fbSize) :
    fillAndFinish ws s = .next (finish { s with fbMem := s.fbMem.writeAll ws }) := by
  rw [fillAndFinish, storeFb_of_inRange h]

/-- Everything `fillAndFinish` can do when it answers a next state. -/
theorem fillAndFinish_next {ws : List (Nat × Byte)} {s t : State} (h : fillAndFinish ws s = .next t) :
    (∀ w ∈ ws, w.1 < s.cfg.fbSize) ∧ t = finish { s with fbMem := s.fbMem.writeAll ws } := by
  unfold fillAndFinish at h
  rcases storeFb_cases ws s with ⟨hr, he⟩ | ⟨hr, he⟩ <;> rw [he] at h
  · exact ⟨hr, by simpa using h.symm⟩
  · cases h

/-- A framebuffer byte after a store, by what is listed there. -/
theorem readFb_of_lookup {s t : State} {a : Nat} (he : t.epoch = s.epoch)
    (h : Memory.lookup a t.fbMem = Memory.lookup a s.fbMem) : readFb t a = readFb s a := by
  simp [readFb, h, he]

/-- A listed byte is read as it is listed. -/
theorem readFb_of_listed {s : State} {a : Nat} {v : Byte} (h : Memory.lookup a s.fbMem = some v) : readFb s a = v := by
  simp [readFb, h]

/-- A stride divides out of an address of row `y`, column `k`. -/
theorem addr_div {stride y k : Nat} (h : k < stride) : (y * stride + k) / stride = y := by
  rw [Nat.mul_comm, Nat.mul_add_div (by omega), Nat.div_eq_of_lt h, Nat.add_zero]

theorem addr_mod {stride y k : Nat} (h : k < stride) : (y * stride + k) % stride = k := by
  rw [Nat.mul_comm, Nat.mul_add_mod, Nat.mod_eq_of_lt h]

/-- An address of row `y` below `rows`, column below the stride, lies below `rows * stride`. -/
theorem addr_lt {stride rows y k : Nat} (hy : y < rows) (hk : k < stride) : y * stride + k < rows * stride := by
  calc y * stride + k < y * stride + stride := by omega
    _ = (y + 1) * stride := by ring
    _ ≤ rows * stride := Nat.mul_le_mul_right _ hy

/-- R122 as a conjunction omega can use. -/
theorem rectValid_iff (r : Rect) :
    rectValid r = true ↔ 0 ≤ r.width ∧ 0 ≤ r.height ∧ r.left % 8 = 0 ∧ r.width % 8 = 0 := by
  simp [rectValid, and_assoc]

/-- The stride times 8 is the width (R8). -/
theorem fbStride_mul (c : Config) : c.fbStride * 8 = c.fbW := by
  have := c.fbW_aligned
  unfold Config.fbStride
  omega

/-- The addresses CLEAR_REGION writes, said by row and column: the bytes of the rectangle inside the framebuffer. -/
theorem mem_regionAddrs {c : Config} {r : Rect} (hv : rectValid r = true) {a : Nat} :
    a ∈ regionAddrs c r ↔ insideRect c r a := by
  obtain ⟨hw, hh, hl, hwm⟩ := (rectValid_iff r).1 hv
  have hs := fbStride_mul c
  unfold regionAddrs insideRect
  generalize hst : c.fbStride = st at *
  simp only
  constructor
  · intro h
    split at h
    · simp at h
    · simp only [List.mem_map, mem_grid, Prod.exists] at h
      obtain ⟨j, k, ⟨hj, hk⟩, rfl⟩ := h
      have hk' : (max r.left 0 / 8).toNat + k < st := by omega
      have hj' : (max r.top 0).toNat + j < c.fbH := by omega
      rw [addr_div hk', addr_mod hk', Config.fbSize, hst]
      exact ⟨addr_lt hj' hk', by omega⟩
  · rintro ⟨ha, h1, h2, h3, h4⟩
    rw [Config.fbSize, hst] at ha
    have hst0 : 0 < st := Nat.pos_of_ne_zero (by rintro rfl; simp at ha)
    have hm : a % st < st := Nat.mod_lt _ hst0
    have hd : a / st < c.fbH := (Nat.div_lt_iff_lt_mul hst0).2 ha
    have he : a / st * st + a % st = a := Nat.div_add_mod' a st
    generalize a / st = y at *
    generalize a % st = x at *
    subst he
    rw [if_neg (by omega)]
    simp only [List.mem_map, mem_grid, Prod.exists]
    refine ⟨y - (max r.top 0).toNat, x - (max r.left 0 / 8).toNat, ⟨by omega, by omega⟩, ?_⟩
    rw [show (max r.top 0).toNat + (y - (max r.top 0).toNat) = y by omega,
      show (max r.left 0 / 8).toNat + (x - (max r.left 0 / 8).toNat) = x by omega]

/-- Everything an operation of the framebuffer unit can do: end with InvalidGeometry, or store bytes of the framebuffer and end. -/
theorem exec_framebuffer_cases {i : Instr} {s t : State} (hi : isDriver i = false) (h : exec i s = .next t) :
    t = raise .invalidGeometry s ∨
    ∃ ws, (∀ w ∈ ws, w.1 < s.cfg.fbSize) ∧ t = finish { s with fbMem := s.fbMem.writeAll ws } := by
  cases i with
  | clearAll => cases h; exact .inr ⟨_, by simp [allAddrs], rfl⟩
  | clearRegion r =>
    change execClearRegion r s = _ at h
    unfold execClearRegion at h
    split at h
    · exact .inr ⟨_, fillAndFinish_next h⟩
    · cases h; exact .inl rfl
  | blit base len r =>
    change execBlit base len r s = _ at h
    unfold execBlit at h
    split at h
    · exact .inr ⟨_, fillAndFinish_next h⟩
    · cases h; exact .inl rfl
  | _ => cases hi

end Sys2Proof.Machine
end

