-- ==== Sys2Proof/Laws/PerInstr.lean ====
section
/-! SUPPORT. Statements made once per operation: the canonical encoding lies in the operation's row of the opcode table. -/

namespace Sys2Proof.Laws.OpcodeRow

/-- The encoding's `W0` is selected by a row of the table with the operation's mnemonic (R95, R96). -/
def Statement (i : Instr) : Prop :=
  ∃ row ∈ opcodeTable, row.mnemonic = i.mnemonic ∧ row.selects (encode i).w0 = true

theorem clearAll : Statement .clearAll := ⟨⟨"CLEAR_ALL", 0xFFFFFFFF#32, 0x00000001#32⟩, by decide, rfl, by decide⟩

theorem clearRegion (r : Rect) : Statement (.clearRegion r) :=
  ⟨⟨"CLEAR_REGION", 0xFFFFFFFF#32, 0x00000002#32⟩, by decide, rfl, by simp [encode, Descriptor.pack, OpcodeRow.selects]⟩

theorem blit (b l : Nat) (r : Rect) : Statement (.blit b l r) :=
  ⟨⟨"BLIT", 0xFFFFFFFF#32, 0x00000003#32⟩, by decide, rfl, by simp [encode, Descriptor.pack, OpcodeRow.selects]⟩

theorem init : Statement .init := ⟨⟨"INITIALIZE", 0xFFFFFFFF#32, 0x00000010#32⟩, by decide, rfl, by decide⟩

theorem setAddressWindow (xs xe ys ye : Int) : Statement (.setAddressWindow xs xe ys ye) :=
  ⟨⟨"SET_ADDRESS_WINDOW", 0xFFFFFFFF#32, 0x00000011#32⟩, by decide, rfl,
    by simp [encode, Descriptor.pack, OpcodeRow.selects]⟩

theorem enableMode (m : Mode) : Statement (.enableMode m) :=
  ⟨⟨"ENABLE_MODE", 0xFFFFFEFF#32, 0x00000012#32⟩, by decide, rfl, by cases m <;> decide⟩

theorem transfer : Statement .transfer := ⟨⟨"TRANSFER", 0xFFFFFFFF#32, 0x00000013#32⟩, by decide, rfl, by decide⟩

theorem refresh : Statement .refresh := ⟨⟨"REFRESH", 0xFFFFFFFF#32, 0x00000014#32⟩, by decide, rfl, by decide⟩

theorem setBorder (w : Bool) : Statement (.setBorder w) :=
  ⟨⟨"SET_BORDER", 0xFFFFFEFF#32, 0x00000015#32⟩, by decide, rfl, by cases w <;> decide⟩

theorem clearDisplay : Statement .clearDisplay :=
  ⟨⟨"CLEAR_DISPLAY", 0xFFFFFFFF#32, 0x00000016#32⟩, by decide, rfl, by decide⟩

end Sys2Proof.Laws.OpcodeRow
end

