-- ==== Sys2Proof/Laws/Run.lean ====
section
/-! SUPPORT. Runs of several steps, one step at a time and cut in two. -/

namespace Sys2Proof.Machine

@[simp] theorem runFor_zero (s : State) : runFor 0 s = .next s := rfl

/-- The first step of a run of any machine behind the host's interface. -/
theorem core_run_succ (M : Host.Core) (n : Nat) (s : M.State) :
    M.run (n + 1) s = match M.step s with
      | .next t => M.run n t
      | .fault r => .fault r
      | .refused r => .refused r := rfl

/-- A run whose first step answers a next state. -/
theorem runFor_succ {s t : State} (h : step s = .next t) (n : Nat) : runFor (n + 1) s = runFor n t := by
  have e := core_run_succ Sys2Proof.core n s
  have h' : Sys2Proof.core.step s = .next t := h
  rw [h'] at e
  exact e

/-- A run of at least one step that answers a next state takes a first step. -/
theorem runFor_succ_next {s t : State} {n : Nat} (h : runFor (n + 1) s = .next t) :
    ∃ u, step s = .next u ∧ runFor n u = .next t := by
  have e := core_run_succ Sys2Proof.core n s
  have h' : Sys2Proof.core.run (n + 1) s = .next t := h
  rw [h'] at e
  cases hs : step s with
  | next u => exact ⟨u, rfl, by rw [← h, runFor_succ hs]⟩
  | fault r =>
    have hs' : Sys2Proof.core.step s = .fault r := hs
    rw [hs'] at e
    cases e
  | refused r =>
    have hs' : Sys2Proof.core.step s = .refused r := hs
    rw [hs'] at e
    cases e

/-- A run cut in two. -/
theorem runFor_add {s t : State} {m : Nat} (h : runFor m s = .next t) (n : Nat) : runFor (m + n) s = runFor n t := by
  induction m generalizing s with
  | zero =>
    cases h
    rw [Nat.zero_add]
  | succ m ih =>
    obtain ⟨u, hs, hu⟩ := runFor_succ_next h
    rw [Nat.add_right_comm, runFor_succ hs, ih hu]

end Sys2Proof.Machine
end

