-- ==== Sys2Proof/Laws/Sequencer.lean ====
section
/-! SUPPORT. What the sequencer's shared operations do, said once: a transaction, a sample of a WAIT, a micro-operation, a step
of a micro-program, a step of a driver operation. -/

namespace Sys2Proof.Machine

/-- The answer consumed is the next listed one, or a free draw. -/
theorem afterBus_cons {s : State} {r : BusResult} {l : List BusResult} (h : s.busIn = r :: l) :
    nextBus s = r ∧ afterBus s = { s with busIn := l } := by
  simp [nextBus, afterBus, h]

/-- The same for a busy sample. -/
theorem afterBusy_cons {s : State} {v : Bool} {l : List Bool} (h : s.busyIn = v :: l) :
    nextBusy s = v ∧ afterBusy s = { s with busyIn := l } := by
  simp [nextBusy, afterBusy, h]

theorem busStep_ok {s : State} (h : nextBus s = .ok) (e : BusResult → Event) :
    busStep e s = .advance (emit (e .ok) (afterBus s)) := by
  simp [busStep, h]

theorem busStep_fail {s : State} (h : nextBus s = .fail) (e : BusResult → Event) :
    busStep e s = .raised .transportError (emit (e .fail) (afterBus s)) := by
  simp [busStep, h]

/-- The fields no micro-operation touches: it changes TRACE, the inputs, `POLLS` and `RESET_OUT` only. -/
structure SameButMicro (s s' : State) : Prop where
  eq : s' = { s with trace := s'.trace, busIn := s'.busIn, busyIn := s'.busyIn, draws := s'.draws,
                     polls := s'.polls, resetOut := s'.resetOut }

/-- The state a micro-step comes to. -/
def MicroOutcome.state : MicroOutcome → State
  | .advance s => s
  | .stay s => s
  | .raised _ s => s

theorem afterBus_frame (s : State) : afterBus s = { s with busIn := (afterBus s).busIn, draws := (afterBus s).draws } := by
  unfold afterBus
  split <;> rfl

theorem afterBusy_frame (s : State) : afterBusy s = { s with busyIn := (afterBusy s).busyIn, draws := (afterBusy s).draws } := by
  unfold afterBusy
  split <;> rfl

/-- Whatever a micro-operation comes to, only the fields named change. -/
theorem microStep_frame (m : MicroOp) (s : State) : SameButMicro s (microStep m s).state := by
  have bus : ∀ e, SameButMicro s (busStep e s).state := fun e => ⟨by
    unfold busStep
    split <;> (unfold afterBus; split <;> rfl)⟩
  cases m with
  | cmd b => exact bus _
  | data bs => exact bus _
  | wait =>
    refine ⟨?_⟩
    unfold microStep waitStep afterBusy
    cases s.cfg.busyTimeoutPolls <;> cases s.busyIn <;> simp only <;> repeat' split
    all_goals rfl
  | rst v => exact ⟨rfl⟩
  | delay t => exact ⟨rfl⟩

/-- Everything a step of a micro-program can do. -/
theorem runMicro_cases {prog : List MicroOp} {after : Nat → State → State} {s t : State}
    (h : runMicro prog after s = .next t) :
    ∃ m, prog[s.ustep.toNat]? = some m ∧
      ((microStep m s = .stay t) ∨
       (∃ e s', microStep m s = .raised e s' ∧ t = raise e s') ∨
       (∃ s', microStep m s = .advance s' ∧ s.ustep.toNat + 1 = prog.length ∧
          t = finish (after s.ustep.toNat { s' with ustep := s'.ustep + 1 })) ∨
       (∃ s', microStep m s = .advance s' ∧ s.ustep.toNat + 1 < prog.length ∧
          t = after s.ustep.toNat { s' with ustep := s'.ustep + 1 })) := by
  unfold runMicro at h
  split at h
  · cases h
  · rename_i m hm
    have hlt : s.ustep.toNat < prog.length := (List.getElem?_eq_some_iff.1 hm).1
    refine ⟨m, hm, ?_⟩
    split at h
    · rename_i s' hs
      cases h
      exact .inl hs
    · rename_i e s' hs
      cases h
      exact .inr (.inl ⟨e, s', hs, rfl⟩)
    · rename_i s' hs
      split at h
      · rename_i hn
        cases h
        exact .inr (.inr (.inl ⟨s', hs, hn, rfl⟩))
      · rename_i hn
        cases h
        exact .inr (.inr (.inr ⟨s', hs, by omega, rfl⟩))

/-- A step of a micro-program whose `USTEP` is an index of it answers a next state. -/
theorem runMicro_progress {prog : List MicroOp} {after : Nat → State → State} {s : State}
    (h : s.ustep.toNat < prog.length) : ∃ t, runMicro prog after s = .next t := by
  unfold runMicro
  rw [List.getElem?_eq_getElem h]
  simp only
  split
  · exact ⟨_, rfl⟩
  · exact ⟨_, rfl⟩
  · split <;> exact ⟨_, rfl⟩

/-- A micro-operation that advances, not the last of its program. -/
theorem runMicro_advance {prog : List MicroOp} {after : Nat → State → State} {s s' : State} {m : MicroOp}
    (hm : prog[s.ustep.toNat]? = some m) (h : microStep m s = .advance s') (hl : s.ustep.toNat + 1 ≠ prog.length) :
    runMicro prog after s = .next (after s.ustep.toNat { s' with ustep := s'.ustep + 1 }) := by
  simp [runMicro, hm, h, hl]

/-- The last micro-operation of its program: the operation ends in the same step (R149). -/
theorem runMicro_complete {prog : List MicroOp} {after : Nat → State → State} {s s' : State} {m : MicroOp}
    (hm : prog[s.ustep.toNat]? = some m) (h : microStep m s = .advance s') (hl : s.ustep.toNat + 1 = prog.length) :
    runMicro prog after s = .next (finish (after s.ustep.toNat { s' with ustep := s'.ustep + 1 })) := by
  simp [runMicro, hm, h, hl]

theorem runMicro_stay {prog : List MicroOp} {after : Nat → State → State} {s s' : State} {m : MicroOp}
    (hm : prog[s.ustep.toNat]? = some m) (h : microStep m s = .stay s') : runMicro prog after s = .next s' := by
  simp [runMicro, hm, h]

theorem runMicro_raised {prog : List MicroOp} {after : Nat → State → State} {s s' : State} {m : MicroOp} {e : ErrKind}
    (hm : prog[s.ustep.toNat]? = some m) (h : microStep m s = .raised e s') :
    runMicro prog after s = .next (raise e s') := by
  simp [runMicro, hm, h]

/-- Every meaning of the SEQ is a step of a driver operation with that operation's own parts. -/
theorem exec_driver {i : Instr} (h : isDriver i = true) (s : State) :
    exec i s = driverOp (phaseValidFor i) (geometryOf i s.cfg) (acceptOf i) (microProgram i s) (afterOf i) s := by
  cases i <;> first | rfl | cases h

/-- Its checks done, an operation of the SEQ executes its next micro-operation. -/
theorem exec_inFlight {i : Instr} (h : isDriver i = true) {s : State} (hi : s.issued = none) :
    exec i s = runMicro (microProgram i s) (afterOf i) s := by
  rw [exec_driver h, driverOp, hi]

/-- Just accepted, an operation of the SEQ is checked and started. -/
theorem exec_check {i : Instr} (h : isDriver i = true) {s : State} {d : Descriptor} (hi : s.issued = some d) :
    exec i s =
      if phaseValidFor i s.phase = false then .next (raise .protocolStateError s)
      else if geometryOf i s.cfg = false then .next (raise .invalidGeometry s)
      else .next (startOp (acceptOf i s)) := by
  rw [exec_driver h, driverOp, hi]

/-- The fields what is attached to a position of a micro-program may change. -/
theorem afterOf_frame (i : Instr) (k : Nat) (s : State) :
    afterOf i k s = { s with
      phase := (afterOf i k s).phase, mode := (afterOf i k s).mode, modeValid := (afterOf i k s).modeValid,
      borderWhite := (afterOf i k s).borderWhite, borderValid := (afterOf i k s).borderValid,
      awXStart := (afterOf i k s).awXStart, awXEnd := (afterOf i k s).awXEnd,
      awYStart := (afterOf i k s).awYStart, awYEnd := (afterOf i k s).awYEnd, awValid := (afterOf i k s).awValid } := by
  cases i <;> simp only [afterOf, initAfter, setAddressWindowAfter, enableModeAfter, transferAfter, refreshAfter,
    setBorderAfter, clearDisplayAfter] <;> (try split) <;> rfl

/-- Everything an error does to the fields of the machine: only these change, whatever its kind. -/
theorem raise_frame (e : ErrKind) (s : State) :
    raise e s = { s with
      err := some e, polls := 0, active := false, issued := none, phase := (raise e s).phase,
      modeValid := (raise e s).modeValid, awValid := (raise e s).awValid, borderValid := (raise e s).borderValid } := by
  cases e <;> rfl

/-- Everything a step of an operation of the SEQ leaves alone: the memories, the operand registers, the configuration, the host's
list, the reset input and count. -/
theorem exec_driver_frame {i : Instr} {s t : State} (hi : isDriver i = true) (h : exec i s = .next t) :
    t = { s with
      ustep := t.ustep, err := t.err, active := t.active, polls := t.polls, issued := t.issued,
      phase := t.phase, mode := t.mode, modeValid := t.modeValid, borderWhite := t.borderWhite, borderValid := t.borderValid,
      awXStart := t.awXStart, awXEnd := t.awXEnd, awYStart := t.awYStart, awYEnd := t.awYEnd, awValid := t.awValid,
      resetOut := t.resetOut, trace := t.trace, busIn := t.busIn, busyIn := t.busyIn, draws := t.draws } := by
  cases hs : s.issued with
  | some d =>
    rw [exec_check hi hs] at h
    repeat' split at h
    · cases h; rfl
    · cases h; rfl
    · cases h; cases i <;> rfl
  | none =>
    rw [exec_inFlight hi hs] at h
    obtain ⟨m, -, hx⟩ := runMicro_cases h
    have hf := (microStep_frame m s).eq
    rcases hx with hx | ⟨e, s', hx, rfl⟩ | ⟨s', hx, -, rfl⟩ | ⟨s', hx, -, rfl⟩ <;>
      rw [hx] at hf <;> simp only [MicroOutcome.state] at hf
    · rw [hf]
    · rw [raise_frame, hf]
    · rw [afterOf_frame, hf]; rfl
    · rw [afterOf_frame, hf]

/-- The lengths of the micro-programs. -/
theorem windowProgram_length (c : Config) (xs xe ys ye : Nat) : (windowProgram c xs xe ys ye).length = 8 := rfl

theorem microProgram_length (i : Instr) (s : State) :
    (microProgram i s).length = match i with
      | .clearAll | .clearRegion _ | .blit _ _ _ => 0
      | .init => 24
      | .setAddressWindow _ _ _ _ => 8
      | .enableMode _ => 6
      | .transfer => 10
      | .refresh => 4
      | .setBorder _ => 2
      | .clearDisplay => 14 := by
  cases i <;> rfl

/-- A micro-program reads the configuration, the enabled mode and the framebuffer, and no register besides (R150). -/
theorem microProgram_congr (i : Instr) {s t : State} (hc : t.cfg = s.cfg) (hm : t.mode = s.mode) (hf : t.fbMem = s.fbMem)
    (he : t.epoch = s.epoch) : microProgram i t = microProgram i s := by
  have hr : readFb t = readFb s := by
    funext a
    simp [readFb, hf, he]
  cases i <;> simp [microProgram, hc, hm, transferProgram, fbImage, hr]

/-- The errors a micro-operation raises are the two of R191 and R194, which invalidate the session (R196). -/
theorem microStep_raised_isRunTime {m : MicroOp} {s s' : State} {e : ErrKind} (h : microStep m s = .raised e s') :
    e.isRunTime = true := by
  have bus : ∀ ev, busStep ev s = .raised e s' → e.isRunTime = true := by
    intro ev h
    unfold busStep at h
    split at h <;> cases h
    rfl
  cases m with
  | cmd b => exact bus _ h
  | data bs => exact bus _ h
  | wait =>
    unfold microStep waitStep at h
    cases hc : s.cfg.busyTimeoutPolls <;> rw [hc] at h <;> simp only at h <;> (repeat' split at h) <;> cases h
    rfl
  | rst v => cases h
  | delay d => cases h

end Sys2Proof.Machine
end

