-- ==== Sys2Proof/Laws/Step.lean ====
section
/-! SUPPORT. Everything a step of the machine can do. -/

namespace Sys2Proof.Machine

/-- Right after accept the operation in flight is what the descriptor decodes to, reserved bits included (R95). -/
@[simp] theorem current_accept (d : Descriptor) (s : State) : current (accept d s) = decode d := rfl

/-- Once the checks are done it is what the operand registers hold. -/
theorem current_of_checked {s : State} (h : s.issued = none) : current s = decode (operandDescriptor s) := by
  rw [current, h]
  rfl

/-- Everything an action of the host can do. -/
theorem hostAct_cases (act : HostAction) (s : State) :
    (∃ a v, act = .store a v ∧ hostAct act s = storeSrc a v s) ∨
    (∃ d, act = .issueIfOk d ∧ s.err ≠ none ∧ hostAct act s = s) ∨
    (∃ d, (act = .issue d ∨ act = .issueIfOk d ∧ s.err = none) ∧ hostAct act s = accept d s) := by
  cases act with
  | issue d => exact .inr (.inr ⟨d, .inl rfl, rfl⟩)
  | issueIfOk d =>
    by_cases h : s.err = none
    · exact .inr (.inr ⟨d, .inr ⟨rfl, h⟩, by simp [hostAct, h]⟩)
    · exact .inr (.inl ⟨d, rfl, h, by simp [hostAct, h]⟩)
  | store a v => exact .inl ⟨a, v, rfl, rfl⟩

/-- Everything a step can do when it answers a next state. -/
theorem step_cases {s t : State} (h : step s = .next t) :
    (s.resetIn = true ∧ t = blockReset s) ∨
    (s.resetIn = false ∧ s.active = true ∧
      ((∃ i, current s = .op i ∧ exec i s = .next t) ∨
       (∃ why, current s = .illegal why ∧ t = raise .illegalOperation s))) ∨
    (s.resetIn = false ∧ s.active = false ∧
      ((s.hostQueue = [] ∧ t = s) ∨
       (∃ act q, s.hostQueue = act :: q ∧ t = hostAct act { s with hostQueue := q }))) := by
  unfold step at h
  split at h
  · exact .inl ⟨‹_›, by simpa using h.symm⟩
  · have hr : s.resetIn = false := by simpa using ‹¬ s.resetIn = true›
    split at h
    · refine .inr (.inl ⟨hr, ‹_›, ?_⟩)
      unfold continueOp at h
      split at h
      · exact .inl ⟨_, ‹_›, h⟩
      · exact .inr ⟨_, ‹_›, by simpa using h.symm⟩
    · refine .inr (.inr ⟨hr, by simpa using ‹¬ s.active = true›, ?_⟩)
      unfold idleStep at h
      split at h
      · exact .inl ⟨‹_›, by simpa using h.symm⟩
      · exact .inr ⟨_, _, ‹_›, by simpa using h.symm⟩

end Sys2Proof.Machine
end

