-- ==== Sys2Proof/Tests/Slice0.lean ====
section
/-! SUPPORT. Small tests of single steps, expected results from spec/95_test_vectors.md and the worked examples, and for each
statement with hypotheses a witness that meets them. -/

namespace Sys2Proof.Tests

open Sys2Proof Sys2Proof.Machine

/-! ### Helpers -/

/-- A 32 by 4 framebuffer, the 200 by 200 panel, the baseline wait (95: V3, V5). -/
def cfg32 : Config where
  fbW := 32
  fbH := 4
  panelW := 200
  panelH := 200
  busyTimeoutPolls := none
  cmd := {}
  pay := {}
  fbW_aligned := by decide
  fbW_le := by decide
  fbH_le := by decide
  panelW_aligned := by decide
  panelW_ge := by decide
  panelW_le := by decide
  panelH_ge := by decide
  panelH_le := by decide
  polls_pos := by decide

/-- A 16 by 2 framebuffer, a 16 by 2 panel, a bound of 3 (95: V16, V18). -/
def cfg16 : Config where
  fbW := 16
  fbH := 2
  panelW := 16
  panelH := 2
  busyTimeoutPolls := some 3
  cmd := {}
  pay := {}
  fbW_aligned := by decide
  fbW_le := by decide
  fbH_le := by decide
  panelW_aligned := by decide
  panelW_ge := by decide
  panelW_le := by decide
  panelH_ge := by decide
  panelH_le := by decide
  polls_pos := by decide

/-- An empty framebuffer, no rows (95: V15). -/
def cfg0 : Config := { cfg16 with fbH := 0, fbH_le := by decide }

/-- An idle block in a phase, Mode1 enabled where the phase has a mode. -/
def idle (c : Config) (p : Phase) : State :=
  { State.reset with
    cfg := c, phase := p, mode := .mode1, modeValid := p.hasMode, opc := 0, f := false, a0 := 0, a1 := 0, a2 := 0, a3 := 0,
    srcBase := 0, srcLen := 0, borderWhite := false, awXStart := 0, awXEnd := 0, awYStart := 0, awYEnd := 0 }

/-- The block that has just accepted an operation: decode and checks come next. -/
def accepted (c : Config) (p : Phase) (i : Instr) : State := accept (encode i) (idle c p)

/-- The block with an operation in flight, its checks done, at micro-step `k`. -/
def flying (c : Config) (p : Phase) (i : Instr) (k : Nat) : State :=
  { accept (encode i) (idle c p) with issued := none, ustep := BitVec.ofNat 8 k, modeValid := p.hasMode || p = .refreshing }

/-- The block with a descriptor held out by the host. -/
def offered (s : State) (i : Instr) : State := { s with hostQueue := [.issue (encode i)] }

/-- A memory of consecutive bytes. -/
def bytesAt (base : Nat) (bs : List Byte) : Memory := bs.zipIdx.map fun p => (base + p.2, p.1)

/-- The answer is a next state of which `p` holds. -/
def gives (r : Result) (p : State → Bool) : Bool :=
  match r with
  | .next t => p t
  | .fault _ => false
  | .refused _ => false

/-- The source image of 95: V5 at 0x1000. -/
def imageV5 : Memory := bytesAt 0x1000 [0xA1, 0xA2, 0xB1, 0xB2]

/-! ### WellFormed refuses -/

theorem test_wf_left_low : (Instr.clearRegion ⟨-32769, 0, 0, 0⟩).wellFormed = false := by decide
theorem test_wf_top_high : (Instr.clearRegion ⟨0, 32768, 0, 0⟩).wellFormed = false := by decide
theorem test_wf_width_high : (Instr.blit 0 0 ⟨0, 0, 32768, 0⟩).wellFormed = false := by decide
theorem test_wf_height_low : (Instr.blit 0 0 ⟨0, 0, 0, -32769⟩).wellFormed = false := by decide
theorem test_wf_src_base : (Instr.blit 0x100000000 0 ⟨0, 0, 8, 1⟩).wellFormed = false := by decide
theorem test_wf_src_len : (Instr.blit 0 0x100000000 ⟨0, 0, 8, 1⟩).wellFormed = false := by decide
theorem test_wf_x_start : (Instr.setAddressWindow 32768 0 0 0).wellFormed = false := by decide
theorem test_wf_x_end : (Instr.setAddressWindow 0 (-32769) 0 0).wellFormed = false := by decide
theorem test_wf_y_start : (Instr.setAddressWindow 0 0 40000 0).wellFormed = false := by decide
theorem test_wf_y_end : (Instr.setAddressWindow 0 0 0 (-40000)).wellFormed = false := by decide
/-- R104: an operand outside its field's range is an assembly error. -/
theorem test_assemble_refuses : assemble (.setAddressWindow 0 0 0 (-40000)) = none := by decide

/-! ### Decoding: the words of 95 V1 and V2, each written out from R91 and R96 -/

theorem test_decode_clearAll : decode ⟨0x00000001, 0, 0, 0, 0⟩ = .op .clearAll := by decide
theorem test_decode_clearRegion :
    decode ⟨0x00000002, 0xFFFFFFF8, 0x00030018, 0, 0⟩ = .op (.clearRegion ⟨-8, -1, 24, 3⟩) := by decide
theorem test_decode_blit :
    decode ⟨0x00000003, 0x0001FFF8, 0x00020010, 0x00001000, 0x00000004⟩ = .op (.blit 0x1000 4 ⟨-8, 1, 16, 2⟩) := by decide
theorem test_decode_init : decode ⟨0x00000010, 0, 0, 0, 0⟩ = .op .init := by decide
theorem test_decode_setAddressWindow :
    decode ⟨0x00000011, 0x00870008, 0x01AB012C, 0, 0⟩ = .op (.setAddressWindow 8 135 300 427) := by decide
theorem test_decode_enableMode1 : decode ⟨0x00000012, 0, 0, 0, 0⟩ = .op (.enableMode .mode1) := by decide
theorem test_decode_enableMode2 : decode ⟨0x00000112, 0, 0, 0, 0⟩ = .op (.enableMode .mode2) := by decide
theorem test_decode_transfer : decode ⟨0x00000013, 0, 0, 0, 0⟩ = .op .transfer := by decide
theorem test_decode_refresh : decode ⟨0x00000014, 0, 0, 0xFFFFFFFF, 0⟩ = .op .refresh := by decide
theorem test_decode_setBorder : decode ⟨0x00000115, 0, 0, 0, 0⟩ = .op (.setBorder true) := by decide
theorem test_decode_clearDisplay : decode ⟨0x00000016, 0, 0, 0, 0⟩ = .op .clearDisplay := by decide
theorem test_decode_unknown : decode ⟨0x00000017, 0, 0, 0, 0⟩ = .illegal .unknownOpcode := by decide
theorem test_decode_flag : decode ⟨0x00000101, 0, 0, 0, 0⟩ = .illegal .flagNotUsed := by decide
theorem test_decode_reserved : decode ⟨0x00000312, 0, 0, 0, 0⟩ = .illegal .reservedBitsSet := by decide
theorem test_decode_length : decodeBytes [0x01] = .illegal .wrongLength := by decide
theorem test_decodeBytes_blit :
    decodeBytes [0x03, 0, 0, 0, 0xF8, 0xFF, 0x01, 0, 0x10, 0, 0x02, 0, 0, 0x10, 0, 0, 0x04, 0, 0, 0]
      = .op (.blit 0x1000 4 ⟨-8, 1, 16, 2⟩) := by decide
theorem test_encode_window :
    encode (.setAddressWindow 8 135 300 427) = ⟨0x00000011, 0x00870008, 0x01AB012C, 0, 0⟩ := by decide
theorem test_tableWord : decodeTableWord 32 0x112 = some (.enableMode .mode2) := by decide
theorem test_asm : (Instr.setBorder false).asmText = "SET_BORDER BLACK" := by decide
/-- R96: the rows of the table are pairwise disjoint where their masks overlap. -/
theorem test_rows_disjoint :
    opcodeTable.Pairwise fun a b => a.pattern &&& b.mask ≠ b.pattern &&& a.mask := by decide

/-! ### One step of each operation -/

/-- R121, worked example. -/
theorem test_clearAll : gives (exec .clearAll { idle cfg16 .uninitialized with fbMem := bytesAt 0 [0x00, 0x5A, 0xFF, 0x01] })
    (fun t => fbImage t = [0xFF, 0xFF, 0xFF, 0xFF] && t.err = none) = true := by decide

/-- The first step after reset runs the operation of the word. -/
theorem test_first_step : gives (step (State.reset.withFetchWord 32 0x01)) (fun t => t.opc = 0x01 && t.err = none) = true := by
  decide

/-- 95 E2: the checkerboard. -/
theorem test_clearRegion : gives (exec (.clearRegion ⟨8, 1, 16, 2⟩) { idle cfg32 .uninitialized with
      fbMem := bytesAt 0 [0xAA, 0xAA, 0xAA, 0xAA, 0x55, 0x55, 0x55, 0x55, 0xAA, 0xAA, 0xAA, 0xAA, 0x55, 0x55, 0x55, 0x55] })
    (fun t => fbImage t =
      [0xAA, 0xAA, 0xAA, 0xAA, 0x55, 0xFF, 0xFF, 0x55, 0xAA, 0xFF, 0xFF, 0xAA, 0x55, 0x55, 0x55, 0x55]) = true := by decide

/-- 95 V3, rows 2, 3 and 10: the addresses of clipped rectangles. -/
theorem test_regionAddrs : regionAddrs cfg32 ⟨-8, -1, 24, 3⟩ = [0, 1, 4, 5] ∧ regionAddrs cfg32 ⟨24, 3, 16, 5⟩ = [15] ∧
    regionAddrs cfg32 ⟨0, -3, 8, 4⟩ = [0] := by decide

/-- 95 V6: cut on all four sides, two strides. -/
theorem test_blit_strides : gives (exec (.blit 0x2000 36 ⟨-8, -1, 48, 6⟩) { idle cfg32 .uninitialized with
      src := (List.range 36).map fun i => (0x2000 + i, BitVec.ofNat 8 (0x10 + i)) })
    (fun t => fbImage t =
      [0x17, 0x18, 0x19, 0x1A, 0x1D, 0x1E, 0x1F, 0x20, 0x23, 0x24, 0x25, 0x26, 0x29, 0x2A, 0x2B, 0x2C]) = true := by decide

/-- 95 V5: a short source is rejected before clipping; a source that ends at 2^32 is not. -/
theorem test_blit_source : gives (exec (.blit 0x1000 3 ⟨40, 0, 16, 2⟩) (idle cfg32 .uninitialized))
      (fun t => t.err = some .invalidGeometry) = true ∧
    gives (exec (.blit 0xFFFFFFFC 4 ⟨0, 0, 16, 2⟩) (idle cfg32 .uninitialized)) (fun t => t.err = none) = true := by decide

/-- R161: the step after accept, and the release of the reset output at micro-step 3. -/
theorem test_init : gives (step (accepted cfg32 .uninitialized .init))
      (fun t => t.phase = .resetting && t.active && !t.awValid && t.trace.isEmpty) = true ∧
    gives (step { flying cfg32 .resetting .init 3 with resetOut := true })
      (fun t => !t.resetOut && t.trace = [.rst false] && t.ustep = 4) = true := by decide

/-- R161, completion. -/
theorem test_init_end : gives (step { flying cfg32 .resetting .init 23 with busIn := [.ok] })
    (fun t => t.phase = .initialized && !t.active && t.err = none && t.ustep = 24 && t.trace = [.data [0x80] .ok]) = true := by
  decide

/-- R163, worked example: the last micro-operation. -/
theorem test_window_end : gives (step { flying cfg32 .initialized (.setAddressWindow 8 135 300 427) 7 with busIn := [.ok] })
    (fun t => t.trace = [.data [0x2C, 0x01] .ok] && t.awXStart = 8 && t.awXEnd = 135 && t.awYStart = 300 && t.awYEnd = 427
      && t.awValid && !t.active) = true := by decide

/-- 95 V10 and V20: an operand out of range, in a valid and in an invalid phase. -/
theorem test_window_checks : gives (step (accepted cfg32 .initialized (.setAddressWindow 0 2048 0 199)))
      (fun t => t.err = some .invalidGeometry) = true ∧
    gives (step (accepted cfg32 .uninitialized (.setAddressWindow (-1) 0 0 0)))
      (fun t => t.err = some .protocolStateError) = true := by decide

/-- R164, worked example: busy sampled clear. -/
theorem test_enableMode_end : gives (step { flying cfg32 .initialized (.enableMode .mode2) 5 with busyIn := [false] })
    (fun t => t.phase = .modeEnabled && t.mode = .mode2 && t.modeValid && t.ustep = 6 && t.trace = [.busy false]) = true := by
  decide

/-- R165, worked example: the image. -/
theorem test_transfer_image : gives (step { flying cfg16 .modeEnabled .transfer 9 with
      busIn := [.ok], fbMem := bytesAt 0 [0xFF, 0x0F, 0x3C, 0xFF] })
    (fun t => t.trace = [.data [0xFF, 0x0F, 0x3C, 0xFF] .ok] && !t.active && t.phase = .modeEnabled) = true := by decide

/-- 95 V16: the fourth transaction of a TRANSFER fails. -/
theorem test_transfer_fails : gives (step { flying cfg16 .modeEnabled .transfer 3 with busIn := [.fail], awValid := true })
    (fun t => t.err = some .transportError && t.ustep = 3 && t.phase = .uninitialized && !t.modeValid && !t.awValid
      && t.trace = [.data [0x00, 0x00, 0x01, 0x00] .fail]) = true := by decide

/-- R166: the staged selection byte of Mode1. -/
theorem test_refresh_select : gives (step { flying cfg16 .refreshing .refresh 1 with busIn := [.ok] })
    (fun t => t.trace = [.data [0xC7] .ok] && t.phase = .refreshing && t.ustep = 2) = true := by decide

/-- 95 V18: the third busy sample in a row with a bound of 3. -/
theorem test_refresh_timeout : gives (step { flying cfg16 .refreshing .refresh 3 with busyIn := [true], polls := 2 })
    (fun t => t.err = some .busyTimeout && t.polls = 0 && t.phase = .uninitialized && t.trace = [.busy true]) = true := by decide

/-- R167, worked example. -/
theorem test_setBorder : gives (step { flying cfg16 .modeEnabled (.setBorder false) 1 with busIn := [.ok] })
    (fun t => t.trace = [.data [0x00] .ok] && !t.borderWhite && t.borderValid && t.phase = .modeEnabled) = true := by decide

/-- R168: the generated white bytes; the phase changes with them. -/
theorem test_clearDisplay_fill : gives (step { flying cfg16 .modeEnabled .clearDisplay 9 with busIn := [.ok] })
    (fun t => t.trace = [.data [0xFF, 0xFF, 0xFF, 0xFF] .ok] && t.phase = .refreshing && t.active) = true := by decide

/-- R94: accept is one step, and the host reads `STATUS = 1` (ACTIVE 1, ERR 0) before a framebuffer operation has run. -/
theorem test_accept : gives (step { offered (idle cfg16 .uninitialized) (.blit 0x1000 4 ⟨-8, 1, 16, 2⟩) with err := some .transportError })
    (fun t => hostRead t 0 = 1 && t.opc = 0x03 && t.a0 = 0xFFF8 && t.a1 = 1 && t.a2 = 16 && t.a3 = 2 && t.srcBase = 0x1000
      && t.srcLen = 4 && t.ustep = 0 && t.fbMem = []) = true := by decide

/-- 95 V2: a set reserved bit, which no operand register holds, is still seen by decode. -/
theorem test_reserved_bit : gives (step (accept ⟨0x80000001, 0, 0, 0, 0⟩ (idle cfg16 .initialized)))
    (fun t => t.err = some .illegalOperation && t.opc = 0x01 && t.fbMem = []) = true := by decide

/-- 95 V2: the all-zero descriptor. -/
theorem test_illegal : gives (step (accept ⟨0, 0, 0, 0, 0⟩ (idle cfg16 .initialized)))
    (fun t => t.err = some .illegalOperation && t.phase = .initialized && t.trace.isEmpty) = true := by decide

/-- R104: the REFRESH of `SHOW` is dropped after an error. -/
theorem test_show_stops : gives (step { idle cfg16 .modeEnabled with err := some .transportError, hostQueue := [.issueIfOk (encode .refresh)] })
    (fun t => t.err = some .transportError && !t.active && t.hostQueue.isEmpty) = true := by decide

/-- 95 P2, end state: the registers as the host reads them. -/
theorem test_hostRead : [0, 1, 2, 3, 4, 5, 6, 7, 8].map (hostRead { idle cfg16 .modeEnabled with
      borderWhite := true, borderValid := true, awXEnd := 15, awYEnd := 1, awValid := true, ustep := 4 })
    = [0, 3, 2, 3, 0x000F0000, 0x00010000, 1, 4, 0] := by decide

/-! ### Witnesses: for each statement with hypotheses, concrete values that meet all of them -/

/-- Boundary operands are well-formed; a canonical and a non-canonical descriptor decode. -/
theorem witness_DecodeAndEncodeAgree : (Instr.blit 0xFFFFFFFF 0xFFFFFFFF ⟨-32768, 32767, -32768, 32767⟩).wellFormed = true ∧
    decode ⟨0x00000011, 0x7FFF8000, 0x7FFF8000, 0, 0⟩ = .op (.setAddressWindow (-32768) 32767 (-32768) 32767) ∧
    decode ⟨0x00000001, 0xDEADBEEF, 0, 0, 0x00000007⟩ = .op .clearAll := by decide

theorem witness_DecodeSelectsByMaskAndMatch : (⟨"ENABLE_MODE", 0xFFFFFEFF#32, 0x00000012#32⟩ : OpcodeRow) ∈ opcodeTable ∧
    OpcodeRow.selects ⟨"ENABLE_MODE", 0xFFFFFEFF#32, 0x00000012#32⟩ 0x00000112 = true ∧
    decode ⟨0x00000112, 0, 0, 0, 0⟩ = .op (.enableMode .mode2) ∧
    ∀ row ∈ opcodeTable, row.selects 0x00000004 = false := by decide

/-- An idle block to which the host offers an illegal descriptor, one for each reason. -/
theorem witness_IllegalDescriptorEndsAtOnce : ∀ w ∈ [0x00000000#32, 0x00000101#32, 0x80000012#32],
    Idle { idle cfg32 .modeEnabled with hostQueue := [.issue ⟨w, 0, 0, 0, 0⟩] } ∧
    Offers ⟨w, 0, 0, 0, 0⟩ [] { idle cfg32 .modeEnabled with hostQueue := [.issue ⟨w, 0, 0, 0, 0⟩] } ∧
    (idle cfg32 .modeEnabled).polls = 0 ∧ ∃ why, decode ⟨w, 0, 0, 0, 0⟩ = .illegal why := by
  intro w hw
  refine ⟨⟨rfl, rfl⟩, rfl, rfl, ?_⟩
  simp only [List.mem_cons, List.not_mem_nil, or_false] at hw
  rcases hw with rfl | rfl | rfl
  · exact ⟨.unknownOpcode, by decide⟩
  · exact ⟨.flagNotUsed, by decide⟩
  · exact ⟨.reservedBitsSet, by decide⟩

/-- Two descriptors of CLEAR_REGION that differ in unused words; a descriptor with `F` set. -/
theorem witness_UnusedFieldsAreIgnored :
    ((⟨2, 8, 8, 0, 0⟩ : Descriptor).w0 = (⟨2, 8, 8, 7, 9⟩ : Descriptor).w0 ∧
      (⟨2, 8, 8, 0, 0⟩ : Descriptor).w1 = (⟨2, 8, 8, 7, 9⟩ : Descriptor).w1 ∧
      (⟨2, 8, 8, 0, 0⟩ : Descriptor).w2 = (⟨2, 8, 8, 7, 9⟩ : Descriptor).w2 ∧ (⟨2, 8, 8, 0, 0⟩ : Descriptor).opc ≠ 0x03#8) ∧
    ((⟨0x101, 0, 0, 0, 0⟩ : Descriptor).flag = true ∧ (⟨0x101, 0, 0, 0, 0⟩ : Descriptor).opc ≠ 0x12#8 ∧
      (⟨0x101, 0, 0, 0, 0⟩ : Descriptor).opc ≠ 0x15#8) := by decide

/-- An offered operation, and one in flight. -/
theorem witness_StepRunsTheDecodedOperation :
    (Idle (offered (idle cfg32 .uninitialized) .clearAll) ∧
      Offers (encode .clearAll) [] (offered (idle cfg32 .uninitialized) .clearAll) ∧ decode (encode .clearAll) = .op .clearAll) ∧
    ((flying cfg16 .refreshing .refresh 3).resetIn = false ∧ (flying cfg16 .refreshing .refresh 3).active = true ∧
      (flying cfg16 .refreshing .refresh 3).issued = none ∧
      decode (operandDescriptor (flying cfg16 .refreshing .refresh 3)) = .op .refresh) :=
  ⟨⟨⟨rfl, rfl⟩, rfl, by decide⟩, rfl, rfl, rfl, by decide⟩

/-- An offered descriptor that decodes; a step is taken while the host holds out the next descriptor. -/
theorem witness_DescriptorIsLatchedWholeAndHeld :
    (Idle (offered (idle cfg16 .initialized) (.setBorder true)) ∧
      Offers (encode (.setBorder true)) [] (offered (idle cfg16 .initialized) (.setBorder true)) ∧
      decode (encode (.setBorder true)) = .op (.setBorder true)) ∧
    (offered (flying cfg16 .resetting .init 0) .clearAll).resetIn = false ∧
    (offered (flying cfg16 .resetting .init 0) .clearAll).active = true ∧
    (∃ t, step (offered (flying cfg16 .resetting .init 0) .clearAll) = .next t) ∧
    (decode (encode .refresh) = .op .refresh ∧ phaseValidFor .refresh Phase.initialized = false) ∧
    (decode (encode (.setAddressWindow 0 2048 0 0)) = .op (.setAddressWindow 0 2048 0 0) ∧
      phaseValidFor (.setAddressWindow 0 2048 0 0) Phase.initialized = true ∧
      geometryOf (.setAddressWindow 0 2048 0 0) cfg16 = false) ∧
    (decode (encode (.clearRegion ⟨4, 0, 8, 8⟩)) = .op (.clearRegion ⟨4, 0, 8, 8⟩) ∧ rectValid ⟨4, 0, 8, 8⟩ = false) ∧
    (decode (encode (.blit 0 7 ⟨0, 0, 8, 8⟩)) = .op (.blit 0 7 ⟨0, 0, 8, 8⟩) ∧
      (rectValid ⟨0, 0, 8, 8⟩ && sourceValid 0 7 ⟨0, 0, 8, 8⟩) = false) :=
  ⟨⟨⟨rfl, rfl⟩, rfl, by decide⟩, rfl, rfl, ⟨_, rfl⟩, by decide, by decide, by decide, by decide⟩

/-- An idle block that accepts and one that does not; an operation that goes on; a framebuffer operation and an illegal descriptor
just accepted. -/
theorem witness_ActiveFromAcceptToTheEnd :
    (∃ t, step (offered (idle cfg16 .initialized) .clearAll) = .next t ∧ t.active = true) ∧
    (∃ t, step (idle cfg16 .initialized) = .next t ∧ t.active = false) ∧
    (∃ t, step (flying cfg16 .resetting .init 0) = .next t ∧ t.active = true) ∧
    ((accepted cfg16 .initialized .clearAll).resetIn = false ∧ (accepted cfg16 .initialized .clearAll).active = true ∧
      current (accepted cfg16 .initialized .clearAll) = .op .clearAll ∧ isDriver .clearAll = false ∧
      ∃ t, step (accepted cfg16 .initialized .clearAll) = .next t) ∧
    (current (accept ⟨0, 0, 0, 0, 0⟩ (idle cfg16 .initialized)) = .illegal .unknownOpcode ∧
      ∃ t, step (accept ⟨0, 0, 0, 0, 0⟩ (idle cfg16 .initialized)) = .next t) :=
  ⟨⟨_, rfl, rfl⟩, ⟨_, rfl, rfl⟩, ⟨_, rfl, rfl⟩, ⟨rfl, rfl, by decide, rfl, _, rfl⟩, by decide, _, rfl⟩

/-- Block reset with an operation in flight. -/
theorem witness_BlockResetFromAnyState :
    ({ flying cfg16 .refreshing .refresh 3 with resetIn := true } : State).resetIn = true := rfl

/-- Block reset between an accept and its checks, with the host's list empty. -/
theorem witness_BlockResetLeavesTheOutsideAlone :
    ({ accepted cfg16 .initialized .clearAll with resetIn := true } : State).resetIn = true ∧
    ({ accepted cfg16 .initialized .clearAll with resetIn := true } : State).hostQueue = [] := ⟨rfl, rfl⟩

/-- A host's store; a driver operation in flight; a descriptor offered. -/
theorem witness_WhoWritesWhichMemory :
    ((∃ t, step { idle cfg16 .initialized with hostQueue := [.store 5 7] } = .next t) ∧
      Idle { idle cfg16 .initialized with hostQueue := [.store 5 7] }) ∧
    ((flying cfg16 .resetting .init 0).resetIn = false ∧ (flying cfg16 .resetting .init 0).active = true ∧
      (∃ t, step (flying cfg16 .resetting .init 0) = .next t) ∧
      ∀ i, current (flying cfg16 .resetting .init 0) = .op i → isDriver i = true) ∧
    ((∃ t, step (offered (idle cfg16 .uninitialized) .clearAll) = .next t) ∧
      Idle (offered (idle cfg16 .uninitialized) .clearAll)) := by
  refine ⟨⟨⟨_, rfl⟩, rfl, rfl⟩, ⟨rfl, rfl, ⟨_, rfl⟩, ?_⟩, ⟨_, rfl⟩, rfl, rfl⟩
  intro i h
  have : current (flying cfg16 .resetting .init 0) = .op .init := by decide
  rw [this] at h
  cases h
  rfl

/-- The second half of `SHOW`, after an error and after success. -/
theorem witness_ShowStopsAfterAnError :
    (Idle { idle cfg16 .modeEnabled with err := some .transportError, hostQueue := [.issueIfOk (encode .refresh)] } ∧
      some ErrKind.transportError ≠ none) ∧
    (Idle { idle cfg16 .modeEnabled with hostQueue := [.issueIfOk (encode .refresh)] } ∧ (idle cfg16 .modeEnabled).err = none) :=
  ⟨⟨⟨rfl, rfl⟩, by decide⟩, ⟨rfl, rfl⟩, rfl⟩

/-- A framebuffer operation, and a second state that agrees on the configuration and the memories. -/
theorem witness_FramebufferUnitTouchesOnlyTheFramebuffer : isDriver (.clearRegion ⟨8, 1, 16, 2⟩) = false ∧
    (idle cfg32 .refreshing).cfg = (idle cfg32 .uninitialized).cfg ∧
    (idle cfg32 .refreshing).fbMem = (idle cfg32 .uninitialized).fbMem ∧
    (idle cfg32 .refreshing).src = (idle cfg32 .uninitialized).src ∧
    ∃ t, exec (.clearRegion ⟨8, 1, 16, 2⟩) (idle cfg32 .refreshing) = .next t := ⟨rfl, rfl, rfl, rfl, _, rfl⟩

/-- Block reset in an idle state. -/
theorem witness_BlockResetForgetsTheFramebuffer :
    ({ idle cfg16 .modeEnabled with resetIn := true, fbMem := bytesAt 0 [1, 2, 3, 4] } : State).resetIn = true := rfl

/-- Addresses at both ends of the framebuffer, and one beyond it. -/
theorem witness_ClearAllSetsEveryBit : (⟨0x00000001, 5, 0, 0, 0⟩ : Descriptor).w0 = 0x00000001#32 ∧ 0 < (idle cfg32 .initialized).cfg.fbSize ∧ 15 < (idle cfg32 .initialized).cfg.fbSize ∧
    (idle cfg32 .initialized).cfg.fbSize ≤ 16 ∧ 7 < 8 := by decide

/-- A rejected and an accepted rectangle; the first and the last byte inside, the bytes beside them outside. -/
theorem witness_ClearRegionFillsTheClippedRectangle :
    rectValid ⟨-4, 0, 8, 1⟩ = false ∧ rectValid ⟨8, 1, 16, 2⟩ = true ∧
    insideRect cfg32 ⟨8, 1, 16, 2⟩ 5 ∧ insideRect cfg32 ⟨8, 1, 16, 2⟩ 10 ∧
    ¬ insideRect cfg32 ⟨8, 1, 16, 2⟩ 4 ∧ ¬ insideRect cfg32 ⟨8, 1, 16, 2⟩ 11 ∧ ¬ insideRect cfg32 ⟨8, 1, 16, 2⟩ 16 := by
  unfold insideRect
  decide

/-- The corner pixels of the rectangle and of the framebuffer. -/
theorem witness_ClearRegionWhitensExactlyThePixels : rectValid ⟨8, 1, 24, 3⟩ = true ∧
    (31 < cfg32.fbW ∧ 3 < cfg32.fbH ∧ (8 : Int) ≤ (31 : Nat) ∧ ((31 : Nat) : Int) < 8 + 24 ∧ (1 : Int) ≤ (3 : Nat) ∧
      ((3 : Nat) : Int) < 1 + 3) ∧
    (7 < cfg32.fbW ∧ 1 < cfg32.fbH ∧ ¬ (8 : Int) ≤ (7 : Nat)) := by decide

/-- A rectangle that covers the buffer exactly, and one that covers more. -/
theorem witness_CoveringRectangleEqualsClearAll : ∀ r ∈ [(⟨0, 0, 32, 4⟩ : Rect), ⟨-8, -2, 48, 8⟩],
    rectValid r = true ∧ r.left ≤ 0 ∧ r.top ≤ 0 ∧ (cfg32.fbW : Int) ≤ r.left + r.width ∧ (cfg32.fbH : Int) ≤ r.top + r.height := by
  decide

/-- For each of the six ways to be empty or outside, a rectangle on the boundary (95: V3, E6), with a source. -/
theorem witness_OutsideRectangleIsNoOp : ∀ r ∈ [(⟨32, 0, 8, 1⟩ : Rect), ⟨0, 4, 8, 1⟩, ⟨-16, 0, 16, 4⟩, ⟨0, -3, 8, 3⟩, ⟨0, 0, 0, 4⟩, ⟨0, 0, 8, 0⟩],
    rectValid r = true ∧ ((cfg32.fbW : Int) ≤ r.left ∨ (cfg32.fbH : Int) ≤ r.top ∨ r.left + r.width ≤ 0 ∨ r.top + r.height ≤ 0 ∨
      r.width = 0 ∨ r.height = 0) ∧ sourceValid 0x1000 8 r = true := by decide

/-- One rectangle for each of the four conditions of R122. -/
theorem witness_UnalignedOrNegativeRectangleIsRejected :
    ∀ r ∈ [(⟨0, 0, -8, 1⟩ : Rect), ⟨0, 0, 8, -1⟩, ⟨-4, 0, 8, 1⟩, ⟨0, 0, 12, 1⟩],
      ¬ (r.width ≥ 0 ∧ r.height ≥ 0 ∧ (8 : Int) ∣ r.left ∧ (8 : Int) ∣ r.width) := by decide

/-- A source one byte too short, one that ends one byte beyond the space, the longest legal one, the largest need. -/
theorem witness_BlitSourceIsCheckedUnclipped :
    (rectValid ⟨40, 0, 16, 2⟩ = true ∧ ((3 : Nat) : Int) < 2 * (16 / 8)) ∧ 0xFFFFFFFD + 4 > 2 ^ 32 ∧
    ((2 : Int) * (16 / 8) ≤ (4 : Nat) ∧ 0xFFFFFFFC + 4 ≤ 2 ^ 32) ∧
    ((⟨-32768, -32768, 32760, 32767⟩ : Rect).wellFormed = true ∧ rectValid ⟨-32768, -32768, 32760, 32767⟩ = true) := by decide

/-- The extreme rectangles of 95 V8 are valid. -/
theorem witness_BlitClippingHasItsClosedForm :
    rectValid ⟨-32760, -32767, 32760, 32767⟩ = true ∧ rectValid ⟨192, 199, 32760, 32767⟩ = true := by decide

/-- A short source; a clipped copy, its first and last byte inside, a byte outside. -/
theorem witness_BlitCopiesTheClippedSource :
    ¬ (rectValid ⟨0, 0, 16, 2⟩ = true ∧ (2 : Int) * (16 / 8) ≤ (3 : Nat) ∧ 0x1000 + 3 ≤ 2 ^ 32) ∧
    (rectValid ⟨-8, 1, 16, 2⟩ = true ∧ (2 : Int) * (16 / 8) ≤ (4 : Nat) ∧ 0x1000 + 4 ≤ 2 ^ 32 ∧
      insideRect cfg32 ⟨-8, 1, 16, 2⟩ 4 ∧ insideRect cfg32 ⟨-8, 1, 16, 2⟩ 8 ∧ ¬ insideRect cfg32 ⟨-8, 1, 16, 2⟩ 5) := by
  unfold insideRect
  decide

/-- A clipped copy of one byte, in the last byte of the buffer. -/
theorem witness_BlitAndFillStayInBounds : rectValid ⟨24, 3, 16, 2⟩ = true ∧ 15 ∈ regionAddrs cfg32 ⟨24, 3, 16, 2⟩ ∧
    sourceValid 0x1000 4 ⟨24, 3, 16, 2⟩ = true ∧ 0 < (blitClip cfg32 ⟨24, 3, 16, 2⟩).ew ∧ 0 < (blitClip cfg32 ⟨24, 3, 16, 2⟩).eh ∧
    (15, 0x1000) ∈ blitMoves cfg32 0x1000 ⟨24, 3, 16, 2⟩ := by decide

/-- A valid rectangle, a canonical memory, and its bytes written last first. -/
theorem witness_EachFramebufferAddressIsWrittenOnce : rectValid ⟨8, 1, 16, 2⟩ = true ∧ Memory.wf [(3, 0x77)] ∧
    List.Perm [(10, 0xFF#8), (9, 0xFF#8), (6, 0xFF#8), (5, 0xFF#8)]
      ((regionAddrs cfg32 ⟨8, 1, 16, 2⟩).map (fun a => (a, 0xFF#8))) := by decide

/-- A canonical memory and an operation that runs on it. -/
theorem witness_FramebufferOperationsAreIdempotent : isDriver (.blit 0x1000 4 ⟨8, 0, 16, 2⟩) = false ∧
    (idle cfg32 .uninitialized).fbMem.wf ∧ ∃ t, exec (.blit 0x1000 4 ⟨8, 0, 16, 2⟩) (idle cfg32 .uninitialized) = .next t :=
  ⟨rfl, List.Pairwise.nil, _, rfl⟩

/-- Accepted operations in each phase a descriptor can be accepted in; a framebuffer operation that answers. -/
theorem witness_PhaseTableAtAccept :
    (∀ p ∈ [Phase.uninitialized, .initialized, .modeEnabled], (accepted cfg16 p .refresh).active = true ∧
      (accepted cfg16 p .refresh).issued = some (encode .refresh) ∧ (accepted cfg16 p .refresh).phase = p) ∧
    isDriver .clearAll = false ∧ ∃ t, exec .clearAll (accepted cfg16 .initialized .clearAll) = .next t := by
  refine ⟨?_, rfl, _, rfl⟩
  intro p _
  exact ⟨rfl, rfl, rfl⟩

/-- Each operand just out of range and all at their bounds; an empty and a non-empty framebuffer. -/
theorem witness_GeometryIsCheckedAfterThePhase :
    (accepted cfg16 .initialized .transfer).issued = some (encode .transfer) ∧
    (accepted cfg16 .initialized .transfer).phase = .initialized ∧
    (∀ w ∈ [((-1 : Int), (0 : Int), (0 : Int), (0 : Int)), (2048, 0, 0, 0), (0, -1, 0, 0), (0, 2048, 0, 0), (0, 0, -1, 0), (0, 0, 0, -1)],
      ¬ (0 ≤ w.1 ∧ w.1 ≤ 2047 ∧ 0 ≤ w.2.1 ∧ w.2.1 ≤ 2047 ∧ 0 ≤ w.2.2.1 ∧ 0 ≤ w.2.2.2)) ∧
    ((0 : Int) ≤ 2047 ∧ (2047 : Int) ≤ 2047 ∧ (0 : Int) ≤ 0 ∧ (0 : Int) ≤ 32767) ∧
    (accepted cfg0 .initialized .transfer).cfg.fbSize = 0 ∧ (accepted cfg16 .initialized .transfer).cfg.fbSize ≠ 0 := by
  refine ⟨rfl, rfl, ?_⟩
  decide

theorem witness_AcceptStartsTheOperation : ∀ p ∈ [Phase.uninitialized, .initialized, .modeEnabled],
    (accepted cfg16 p .init).issued = some (encode .init) ∧ (accepted cfg16 p .init).phase = p := by
  intro p _
  exact ⟨rfl, rfl⟩

/-- A command that is not the last of its program and data that is, each answered `ok` and `fail`. -/
theorem witness_TransactionSucceedsOrEndsTheOperation :
    (InFlightAt (.setBorder true) (.cmd 0x3C) (flying cfg16 .initialized (.setBorder true) 0) ∧
      (flying cfg16 .initialized (.setBorder true) 0).ustep.toNat + 1
        < (microProgram (.setBorder true) (flying cfg16 .initialized (.setBorder true) 0)).length) ∧
    (InFlightAt (.setBorder true) (.data [0x01]) (flying cfg16 .initialized (.setBorder true) 1) ∧
      (flying cfg16 .initialized (.setBorder true) 1).ustep.toNat + 1
        = (microProgram (.setBorder true) (flying cfg16 .initialized (.setBorder true) 1)).length) ∧
    nextBus { flying cfg16 .initialized (.setBorder true) 0 with busIn := [.ok] } = .ok ∧
    nextBus { flying cfg16 .initialized (.setBorder true) 0 with busIn := [.fail] } = .fail :=
  ⟨⟨⟨rfl, rfl, rfl, rfl⟩, by decide⟩, ⟨⟨rfl, rfl, rfl, rfl⟩, by decide⟩, rfl, rfl⟩

/-- A WAIT inside a program and one at its end, baseline, each with both levels. -/
theorem witness_BaselineWaitTakesOneSample :
    (InFlightAt .init .wait (flying cfg32 .resetting .init 5) ∧ (flying cfg32 .resetting .init 5).ustep.toNat + 1
      < (microProgram .init (flying cfg32 .resetting .init 5)).length) ∧
    (InFlightAt .refresh .wait (flying cfg32 .refreshing .refresh 3) ∧ (flying cfg32 .refreshing .refresh 3).ustep.toNat + 1
      = (microProgram .refresh (flying cfg32 .refreshing .refresh 3)).length) ∧
    (flying cfg32 .resetting .init 5).cfg.busyTimeoutPolls = none ∧
    nextBusy { flying cfg32 .resetting .init 5 with busyIn := [true] } = true ∧
    nextBusy { flying cfg32 .resetting .init 5 with busyIn := [false] } = false :=
  ⟨⟨⟨rfl, rfl, rfl, rfl⟩, by decide⟩, ⟨⟨rfl, rfl, rfl, rfl⟩, by decide⟩, rfl, rfl, rfl⟩

/-- What holds of a REFRESH that has come to its WAIT. -/
theorem flight_refresh_wait (c : Config) (bs : List Bool) :
    FlightInv .refresh { flying c .refreshing .refresh 3 with busyIn := bs } where
  active := rfl
  checked := rfl
  latched :=
    show decode (operandDescriptor (flying cfg16 .refreshing .refresh 3)) = .op .refresh by decide
  driver := rfl
  inRange := show 3 < 4 by decide
  phase := rfl
  geometry := rfl
  noError := rfl
  polls := fun hne => absurd rfl hne
  resetOut := by
    constructor
    · intro hr
      cases hr
    · rintro ⟨hi, _⟩
      cases hi

/-- A bound of 3: three samples that find busy asserted, and two followed by a clear one. -/
theorem witness_BoundedWaitTimesOutAfterExactlyNSamples :
    FlightInv .refresh { flying cfg16 .refreshing .refresh 3 with busyIn := [true, true, true] } ∧
    FlightInv .refresh { flying cfg16 .refreshing .refresh 3 with busyIn := [true, true, false] } ∧
    (microProgram .refresh (flying cfg16 .refreshing .refresh 3))[3]? = some .wait ∧
    (flying cfg16 .refreshing .refresh 3).resetIn = false ∧ (flying cfg16 .refreshing .refresh 3).polls = 0 ∧
    (flying cfg16 .refreshing .refresh 3).cfg.busyTimeoutPolls = some 3 ∧
    [true, true, true] = List.replicate 3 true ++ [] ∧ (2 < 3 ∧ [true, true, false] = List.replicate 2 true ++ false :: []) :=
  ⟨flight_refresh_wait cfg16 [true, true, true], flight_refresh_wait cfg16 [true, true, false],
    rfl, rfl, rfl, rfl, rfl, by decide, rfl⟩

theorem witness_ResetPulseAndDelayCannotFail : InFlightAt .init (.rst true) (flying cfg16 .resetting .init 0) ∧
    InFlightAt .init (.rst false) (flying cfg16 .resetting .init 3) ∧ InFlightAt .init (.delay 0) (flying cfg16 .resetting .init 4) :=
  ⟨⟨rfl, rfl, rfl, rfl⟩, ⟨rfl, rfl, rfl, rfl⟩, rfl, rfl, rfl, rfl⟩

/-- The baseline, ten samples that find busy asserted. -/
theorem witness_StuckBusyLineHangsTheBaseline :
    FlightInv .refresh { flying cfg32 .refreshing .refresh 3 with busyIn := List.replicate 10 true ++ [false] } ∧
    (microProgram .refresh (flying cfg32 .refreshing .refresh 3))[3]? = some .wait ∧
    (flying cfg32 .refreshing .refresh 3).resetIn = false ∧ (flying cfg32 .refreshing .refresh 3).cfg.busyTimeoutPolls = none :=
  ⟨flight_refresh_wait cfg32 (List.replicate 10 true ++ [false]), rfl, rfl, rfl⟩

theorem witness_WindowPayloadBytes : 0 ≤ 2047 ∧ 2047 ≤ 2047 ∧ 0 ≤ 65535 ∧ 65535 ≤ 65535 := by decide

theorem witness_TransactionsNeverReceive :
    (MicroOp.cmd 0x20 ∈ microProgram .refresh (idle cfg16 .modeEnabled) ∧
      (MicroOp.cmd 0x20).transaction = some ⟨some 0x20, [], 0⟩) ∧
    (MicroOp.data [0xC7] ∈ microProgram .refresh (idle cfg16 .modeEnabled) ∧
      (MicroOp.data [0xC7]).transaction = some ⟨none, [0xC7], 0⟩) := by decide

/-- For each operation of the SEQ a state at its last micro-operation, with the answer that lets it succeed. -/
theorem witness_LastMicroStepCompletesTheOperation :
    (∀ p ∈ [(Instr.init, 23), (.setAddressWindow 0 2047 0 32767, 7), (.transfer, 9), (.setBorder true, 1)],
      (flying cfg16 .modeEnabled p.1 p.2).issued = none ∧ (flying cfg16 .modeEnabled p.1 p.2).ustep = BitVec.ofNat 8 p.2 ∧
      nextBus { flying cfg16 .modeEnabled p.1 p.2 with busIn := [.ok] } = .ok) ∧
    (∀ p ∈ [(Instr.enableMode .mode2, 5), (.refresh, 3), (.clearDisplay, 13)],
      (flying cfg16 .modeEnabled p.1 p.2).issued = none ∧ (flying cfg16 .modeEnabled p.1 p.2).ustep = BitVec.ofNat 8 p.2 ∧
      nextBusy { flying cfg16 .modeEnabled p.1 p.2 with busyIn := [false] } = false) :=
  ⟨fun _ _ => ⟨rfl, rfl, rfl⟩, fun _ _ => ⟨rfl, rfl, rfl⟩⟩

/-- An idle block with an operation offered, `n` transactions that will succeed, and busy asserted twice before it clears. -/
def running (p : Phase) (i : Instr) (n : Nat) : State :=
  { offered (idle cfg16 p) i with busIn := List.replicate n .ok, busyIn := [true, true, false] }

theorem outlasts_two : WaitOutlasts cfg16 2 := by
  intro n h
  cases h
  decide

theorem witness_InitializeRunsToInitialized :
    let s := { running .uninitialized .init 17 with busyIn := [true, true, false, true, true, false] }
    Idle s ∧ Offers (encode .init) [] s ∧ decode (encode .init) = .op .init ∧ s.phase = .uninitialized ∧ s.polls = 0 ∧
    WaitOutlasts s.cfg 2 ∧ s.busIn = List.replicate 17 .ok ++ [] ∧
    s.busyIn = List.replicate 2 true ++ false :: (List.replicate 2 true ++ false :: []) :=
  ⟨⟨rfl, rfl⟩, rfl, by decide, rfl, rfl, outlasts_two, rfl, rfl⟩

/-- The operands at their bounds. -/
theorem witness_SetAddressWindowRunsToItsEnd :
    let i := Instr.setAddressWindow (2047 : Nat) (2047 : Nat) (32767 : Nat) (0 : Nat)
    let s := running .modeEnabled i 8
    Idle s ∧ Offers (encode i) [] s ∧ decode (encode i) = .op i ∧ s.phase = .modeEnabled ∧ s.busIn = List.replicate 8 .ok ++ [] ∧
    s.polls = 0 :=
  ⟨⟨rfl, rfl⟩, rfl, by decide, rfl, rfl, rfl⟩

theorem witness_EnableModeRunsToModeEnabled :
    let i := Instr.enableMode .mode2
    let s := running .initialized i 5
    Idle s ∧ Offers (encode i) [] s ∧ decode (encode i) = .op i ∧ s.phase = .initialized ∧ s.polls = 0 ∧ WaitOutlasts s.cfg 2 ∧
    s.busIn = List.replicate 5 .ok ++ [] ∧ s.busyIn = List.replicate 2 true ++ false :: [] :=
  ⟨⟨rfl, rfl⟩, rfl, by decide, rfl, rfl, outlasts_two, rfl, rfl⟩

theorem witness_TransferStreamsTheFramebuffer :
    let s := running .initialized .transfer 10
    Idle s ∧ Offers (encode .transfer) [] s ∧ decode (encode .transfer) = .op .transfer ∧ s.phase = .initialized ∧
    s.cfg.fbSize ≠ 0 ∧ s.busIn = List.replicate 10 .ok ++ [] ∧ s.polls = 0 :=
  ⟨⟨rfl, rfl⟩, rfl, by decide, rfl, by decide, rfl, rfl⟩

theorem witness_RefreshRunsInTheEnabledMode :
    let s := running .modeEnabled .refresh 3
    Idle s ∧ Offers (encode .refresh) [] s ∧ decode (encode .refresh) = .op .refresh ∧ s.phase = .modeEnabled ∧ s.polls = 0 ∧
    WaitOutlasts s.cfg 2 ∧ s.busIn = List.replicate 3 .ok ++ [] ∧ s.busyIn = List.replicate 2 true ++ false :: [] :=
  ⟨⟨rfl, rfl⟩, rfl, by decide, rfl, rfl, outlasts_two, rfl, rfl⟩

theorem witness_SetBorderSendsTheColour :
    let s := running .initialized (.setBorder true) 2
    Idle s ∧ Offers (encode (.setBorder true)) [] s ∧ decode (encode (.setBorder true)) = .op (.setBorder true) ∧
    s.phase = .initialized ∧ s.busIn = .ok :: .ok :: [] ∧ s.polls = 0 :=
  ⟨⟨rfl, rfl⟩, rfl, by decide, rfl, rfl, rfl⟩

theorem witness_ClearDisplayErasesThePanel :
    let s := running .modeEnabled .clearDisplay 13
    Idle s ∧ Offers (encode .clearDisplay) [] s ∧ decode (encode .clearDisplay) = .op .clearDisplay ∧ s.phase = .modeEnabled ∧
    s.polls = 0 ∧ WaitOutlasts s.cfg 2 ∧ s.busIn = List.replicate 13 .ok ++ [] ∧
    s.busyIn = List.replicate 2 true ++ false :: [] :=
  ⟨⟨rfl, rfl⟩, rfl, by decide, rfl, rfl, outlasts_two, rfl, rfl⟩

theorem witness_ShowIssuesOneWriteAndOneActivation :
    let s := { running .modeEnabled .transfer 13 with hostQueue := showActions ++ [] }
    Idle s ∧ s.hostQueue = showActions ++ [] ∧ s.phase = .modeEnabled ∧ s.cfg.fbSize ≠ 0 ∧ s.polls = 0 ∧
    WaitOutlasts s.cfg 2 ∧ s.busIn = List.replicate 13 .ok ++ [] ∧ s.busyIn = List.replicate 2 true ++ false :: [] :=
  ⟨⟨rfl, rfl⟩, rfl, rfl, by decide, rfl, outlasts_two, rfl, rfl⟩

theorem witness_WindowRegistersSteerNothing :
    ∃ t, exec .transfer { flying cfg16 .modeEnabled .transfer 7 with busIn := [.ok] } = .next t := ⟨_, rfl⟩

theorem witness_HowAnOperationEnds : (ErrKind.transportError = .transportError ∨ ErrKind.transportError = .busyTimeout) ∧
    (ErrKind.illegalOperation = .invalidGeometry ∨ ErrKind.illegalOperation = .protocolStateError ∨
      ErrKind.illegalOperation = .illegalOperation) := by decide

/-- A rejected BLIT ends with an error; a driver operation answers. -/
theorem witness_ErrorsLeaveTheFramebuffer :
    (∃ t, exec (.blit 0x1000 3 ⟨0, 0, 16, 2⟩) (idle cfg32 .initialized) = .next t ∧ t.err ≠ none) ∧
    isDriver .transfer = true ∧
    ∃ t, exec .transfer { flying cfg16 .modeEnabled .transfer 3 with busIn := [.ok] } = .next t :=
  ⟨⟨_, rfl, by decide⟩, rfl, _, rfl⟩

/-- A transaction that fails, and the third busy sample of a bound of 3. -/
theorem witness_RunTimeErrorNeedsANewInitialize :
    (∃ t, exec .transfer { flying cfg16 .modeEnabled .transfer 3 with busIn := [.fail] } = .next t ∧
      t.err = some .transportError) ∧
    (∃ t, exec .refresh { flying cfg16 .refreshing .refresh 3 with busyIn := [true], polls := 2 } = .next t ∧
      t.err = some .busyTimeout) ∧
    (decode (encode .init) = .op .init ∧ isDriver .init = true) ∧
    (decode (encode .refresh) = .op .refresh ∧ isDriver .refresh = true ∧ Instr.refresh ≠ .init) :=
  ⟨⟨_, rfl, rfl⟩, ⟨_, rfl, rfl⟩, ⟨by decide, rfl⟩, by decide, rfl, by decide⟩

/-- A state with a REFRESH at its WAIT meets the invariant; its busy line is clear. -/
def waiting : State := { flying cfg16 .refreshing .refresh 3 with busyIn := [false] }

theorem waiting_inv : Inv waiting where
  fbWf := List.Pairwise.nil
  fbBound := by
    intro c hc
    cases hc
  srcWf := List.Pairwise.nil
  srcBound := by
    intro c hc
    cases hc
  modePhase := by decide
  window := by
    intro h
    cases h
  idle := by
    intro h
    cases h
  accepted := by
    intro d _ h
    cases h
  flight := fun _ _ => ⟨.refresh, flight_refresh_wait cfg16 [false]⟩

/-- No micro-program runs in an idle state of phase ModeEnabled. -/
theorem idle_quiet : QuietInv (idle cfg16 .modeEnabled) := ⟨by decide, by decide, rfl, rfl⟩

/-- An idle state in phase ModeEnabled meets the invariant. -/
theorem idle_inv : Inv (idle cfg16 .modeEnabled) where
  fbWf := List.Pairwise.nil
  fbBound := by
    intro c hc
    cases hc
  srcWf := List.Pairwise.nil
  srcBound := by
    intro c hc
    cases hc
  modePhase := by decide
  window := by
    intro h
    cases h
  idle := fun _ => ⟨rfl, idle_quiet⟩
  accepted := by
    intro d h
    cases h
  flight := by
    intro h
    cases h

/-- So does the state that follows when it accepts a descriptor, legal or not. -/
theorem accept_inv (d : Descriptor) : Inv (accept d (idle cfg16 .modeEnabled)) where
  fbWf := idle_inv.fbWf
  fbBound := idle_inv.fbBound
  srcWf := idle_inv.srcWf
  srcBound := idle_inv.srcBound
  modePhase := idle_inv.modePhase
  window := idle_inv.window
  idle := by
    intro h
    cases h
  accepted := by
    intro e _ h
    cases h
    exact ⟨rfl, idle_quiet.notResetting, idle_quiet.notRefreshing, rfl, rfl⟩
  flight := by
    intro _ h
    cases h

theorem witness_PhaseChangesOnlyAsTheTableSays : (Inv waiting ∧ waiting.resetIn = false ∧ ∃ t, step waiting = .next t) ∧
    (Inv (accepted cfg16 .modeEnabled .refresh) ∧ (accepted cfg16 .modeEnabled .refresh).resetIn = false ∧
      ∃ t, step (accepted cfg16 .modeEnabled .refresh) = .next t) :=
  ⟨⟨waiting_inv, rfl, _, rfl⟩, accept_inv _, rfl, _, rfl⟩

/-- A step of an idle block, one that checks, and one with a micro-operation in flight. -/
theorem witness_TraceGrowsByMicroOperationsOnly :
    (Inv (idle cfg16 .modeEnabled) ∧ (idle cfg16 .modeEnabled).resetIn = false ∧ (idle cfg16 .modeEnabled).active = false ∧
      ∃ t, step (idle cfg16 .modeEnabled) = .next t) ∧
    (Inv (accepted cfg16 .modeEnabled .refresh) ∧ (accepted cfg16 .modeEnabled .refresh).issued ≠ none ∧
      ∃ t, step (accepted cfg16 .modeEnabled .refresh) = .next t) ∧
    (Inv waiting ∧ waiting.resetIn = false ∧ waiting.active = true ∧ waiting.issued = none ∧ ∃ t, step waiting = .next t) :=
  ⟨⟨idle_inv, rfl, rfl, _, rfl⟩, ⟨accept_inv _, by decide, _, rfl⟩, waiting_inv, rfl, rfl, rfl, _, rfl⟩

theorem witness_ResetOutputIsDrivenOnlyByRst : (flying cfg16 .resetting .init 0).resetIn = false ∧
    ∃ t, step (flying cfg16 .resetting .init 0) = .next t ∧ t.resetOut = true := ⟨rfl, _, rfl, rfl⟩

/-- Each valid bit set, and a register number beyond the last. -/
theorem witness_HostRegisterFields : (idle cfg16 .modeEnabled).modeValid = true ∧
    ({ idle cfg16 .modeEnabled with borderValid := true } : State).borderValid = true ∧
    ({ idle cfg16 .modeEnabled with awValid := true } : State).awValid = true ∧ 8 ≤ 8 := ⟨rfl, rfl, rfl, by decide⟩

/-- The first and the last byte while idle, an address beyond, and an operation in flight. -/
theorem witness_FramebufferReadPort : (idle cfg32 .initialized).active = false ∧ 0 < (idle cfg32 .initialized).cfg.fbSize ∧
    15 < (idle cfg32 .initialized).cfg.fbSize ∧ (idle cfg32 .initialized).cfg.fbSize ≤ 16 ∧
    (flying cfg32 .resetting .init 0).active = true := by decide

theorem witness_StepKeepsTheInvariant : (Inv waiting ∧ ∃ t, step waiting = .next t) ∧
    (Inv (accepted cfg16 .modeEnabled .clearAll) ∧ ∃ t, step (accepted cfg16 .modeEnabled .clearAll) = .next t) ∧
    (Inv (idle cfg16 .modeEnabled) ∧ ∃ t, step (idle cfg16 .modeEnabled) = .next t) :=
  ⟨⟨waiting_inv, _, rfl⟩, ⟨accept_inv _, _, rfl⟩, idle_inv, _, rfl⟩

theorem witness_TheMachineNeverGetsStuck : Inv waiting ∧ Inv (idle cfg16 .modeEnabled) := ⟨waiting_inv, idle_inv⟩

end Sys2Proof.Tests
end

section
/-! PROOFS of the encoding's statements (spec/30_encoding.md R91 to R98, R102, R105): words as their fields, decode as "the
row of `W0` with the descriptor's operands", the canonical encoding, the memory image, the window payloads. -/

namespace Sys2Proof

/-! ### Words and their fields (R91) -/

/-- A word is its two halves. -/
theorem word_ext_halves {v w : Word} (hlo : v.extractLsb' 0 16 = w.extractLsb' 0 16)
    (hhi : v.extractLsb' 16 16 = w.extractLsb' 16 16) : v = w := by
  rw [← BitVec.extractLsb'_append_extractLsb' (w := 16) (len := 16) (x := v), hlo, hhi,
    BitVec.extractLsb'_append_extractLsb']

/-- `W0` is `OPC`, `F` and the reserved bits. -/
theorem word_eq_iff_w0_fields {v w : Word} : v = w ↔
    v.extractLsb' 9 23 = w.extractLsb' 9 23 ∧ v.extractLsb' 0 8 = w.extractLsb' 0 8 ∧ v.getLsbD 8 = w.getLsbD 8 := by
  refine ⟨fun h => h ▸ ⟨rfl, rfl, rfl⟩, fun ⟨hres, hopc, hf⟩ => BitVec.eq_of_getLsbD_eq fun i hi => ?_⟩
  obtain h | rfl | h : i < 8 ∨ i = 8 ∨ 9 ≤ i := by omega
  · simpa [h] using congrArg (BitVec.getLsbD · i) hopc
  · exact hf
  · simpa [show i - 9 < 23 by omega, Nat.add_sub_cancel' h] using congrArg (BitVec.getLsbD · (i - 9)) hres

/-- A descriptor with its reserved bits 0 is the packing of its fields. -/
theorem pack_fields {d : Descriptor} (hres : d.reserved = 0#23) :
    Descriptor.pack d.opc d.flag d.a0 d.a1 d.a2 d.a3 d.w3 d.w4 = d := by
  have hw0 : (Descriptor.pack d.opc d.flag d.a0 d.a1 d.a2 d.a3 d.w3 d.w4).w0 = d.w0 :=
    word_eq_iff_w0_fields.mpr ⟨(pack_reserved ..).trans hres.symm, pack_opc .., pack_flag ..⟩
  have hw1 : (Descriptor.pack d.opc d.flag d.a0 d.a1 d.a2 d.a3 d.w3 d.w4).w1 = d.w1 :=
    word_ext_halves (pack_a0 ..) (pack_a1 ..)
  have hw2 : (Descriptor.pack d.opc d.flag d.a0 d.a1 d.a2 d.a3 d.w3 d.w4).w2 = d.w2 :=
    word_ext_halves (pack_a2 ..) (pack_a3 ..)
  exact (Descriptor.mk.injEq ..).mpr ⟨hw0, hw1, hw2, rfl, rfl⟩

/-! ### The rows of R96, and the operands of R92 -/

/-- The two operations that use `F` (R96, R97). -/
def Instr.usesFlag : Instr → Bool
  | .enableMode _ | .setBorder _ => true
  | _ => false

/-- The `F` of an operation's encoding (R104, R105). -/
def Instr.flag : Instr → Bool
  | .enableMode m => flagOfMode m
  | .setBorder w => w
  | _ => false

/-- The row of R96 an operation belongs to. -/
def Instr.row (i : Instr) : OpcodeRow where
  mnemonic := i.mnemonic
  mask     := if i.usesFlag then 0xFFFFFEFF#32 else 0xFFFFFFFF#32
  pattern  := i.opc.setWidth 32

/-- The operation of the same row with the operands a descriptor carries (R92). -/
def Instr.withOperands (d : Descriptor) : Instr → Instr
  | .clearRegion _ => .clearRegion d.rect
  | .blit _ _ _ => .blit d.w3.toNat d.w4.toNat d.rect
  | .setAddressWindow _ _ _ _ => .setAddressWindow d.a0.toInt d.a1.toInt d.a2.toInt d.a3.toInt
  | .enableMode _ => .enableMode (modeOfFlag d.flag)
  | .setBorder _ => .setBorder d.flag
  | .clearAll => .clearAll
  | .init => .init
  | .transfer => .transfer
  | .refresh => .refresh
  | .clearDisplay => .clearDisplay

@[simp] theorem row_withOperands (d : Descriptor) (i : Instr) : (i.withOperands d).row = i.row := by
  cases i <;> rfl

@[simp] theorem flagOfMode_modeOfFlag (f : Bool) : flagOfMode (modeOfFlag f) = f := by cases f <;> rfl

@[simp] theorem modeOfFlag_flagOfMode (m : Mode) : modeOfFlag (flagOfMode m) = m := by cases m <;> rfl

theorem row_mem_opcodeTable (i : Instr) : i.row ∈ opcodeTable := by
  cases i <;> simp [Instr.row, Instr.mnemonic, Instr.usesFlag, Instr.opc, opcodeTable]

/-- The ten rows, one for each operation (R96). -/
theorem opcodeTable_eq_map_row : opcodeTable =
    [Instr.clearAll, .clearRegion default, .blit 0 0 default, .init, .setAddressWindow 0 0 0 0, .enableMode default,
      .transfer, .refresh, .setBorder false, .clearDisplay].map Instr.row := by decide

theorem exists_row_eq_of_mem {row : OpcodeRow} (h : row ∈ opcodeTable) : ∃ i : Instr, i.row = row := by
  rw [opcodeTable_eq_map_row] at h
  obtain ⟨i, -, hi⟩ := List.mem_map.mp h
  exact ⟨i, hi⟩

/-- Mask and match in terms of the fields of `W0`: the reserved bits are 0, `OPC` is the row's, and `F` is 0 where it is
not used (R97, R98). -/
theorem selects_row_iff (i : Instr) (d : Descriptor) :
    i.row.selects d.w0 = true ↔ d.reserved = 0#23 ∧ d.opc = i.opc ∧ (i.usesFlag = false → d.flag = false) := by
  have hmask : i.row.mask.extractLsb' 9 23 = BitVec.allOnes 23 ∧ i.row.mask.extractLsb' 0 8 = BitVec.allOnes 8 ∧
      i.row.mask.getLsbD 8 = !i.usesFlag := by
    cases h : i.usesFlag <;> simp [Instr.row, h]
  have hpat : i.row.pattern.extractLsb' 9 23 = 0#23 ∧ i.row.pattern.extractLsb' 0 8 = i.opc ∧
      i.row.pattern.getLsbD 8 = false := by
    refine ⟨BitVec.eq_of_getLsbD_eq fun k _ => ?_, ?_, by simp [Instr.row]⟩
    · simp [Instr.row, BitVec.getLsbD_of_ge i.opc (9 + k) (by omega)]
    · simp [Instr.row, BitVec.extractLsb'_setWidth_of_le]
  rw [OpcodeRow.selects, decide_eq_true_iff, word_eq_iff_w0_fields]
  simp only [BitVec.extractLsb'_and, BitVec.getLsbD_and, hmask, hpat, BitVec.and_allOnes]
  change d.reserved = 0#23 ∧ d.opc = i.opc ∧ (d.flag && !i.usesFlag) = false ↔ _
  cases i.usesFlag <;> simp

/-! ### Decode -/

theorem withoutFlag_eq_op_iff {d : Descriptor} {i j : Instr} :
    withoutFlag d j = .op i ↔ d.flag = false ∧ j = i := by
  cases h : d.flag <;> simp [withoutFlag, h]

/-- Decode is the selected row with the descriptor's operands. Left to right goes down the decoder's chain of opcodes;
right to left runs the decoder on the row's own opcode. -/
theorem decode_eq_op_iff {d : Descriptor} {i : Instr} :
    decode d = .op i ↔ i.row.selects d.w0 = true ∧ i.withOperands d = i := by
  rw [selects_row_iff]
  constructor
  · intro h
    have hres := decode_op_reserved h
    have plain {j : Instr} (h : withoutFlag d j = .op i) (hopc : d.opc = j.opc) (hj : j.withOperands d = j) :
        (d.reserved = 0#23 ∧ d.opc = i.opc ∧ (i.usesFlag = false → d.flag = false)) ∧ i.withOperands d = i := by
      obtain ⟨hf, rfl⟩ := withoutFlag_eq_op_iff.mp h
      exact ⟨⟨hres, hopc, fun _ => hf⟩, hj⟩
    simp only [decode, hres, ne_eq, not_true_eq_false, if_false] at h
    obtain ⟨hopc, h⟩ | ⟨-, h⟩ := ite_eq_iff.mp h
    · exact plain h hopc rfl
    obtain ⟨hopc, h⟩ | ⟨-, h⟩ := ite_eq_iff.mp h
    · exact plain h hopc rfl
    obtain ⟨hopc, h⟩ | ⟨-, h⟩ := ite_eq_iff.mp h
    · exact plain h hopc rfl
    obtain ⟨hopc, h⟩ | ⟨-, h⟩ := ite_eq_iff.mp h
    · exact plain h hopc rfl
    obtain ⟨hopc, h⟩ | ⟨-, h⟩ := ite_eq_iff.mp h
    · exact plain h hopc rfl
    obtain ⟨hopc, h⟩ | ⟨-, h⟩ := ite_eq_iff.mp h
    · cases h; exact ⟨⟨hres, hopc, nofun⟩, rfl⟩
    obtain ⟨hopc, h⟩ | ⟨-, h⟩ := ite_eq_iff.mp h
    · exact plain h hopc rfl
    obtain ⟨hopc, h⟩ | ⟨-, h⟩ := ite_eq_iff.mp h
    · exact plain h hopc rfl
    obtain ⟨hopc, h⟩ | ⟨-, h⟩ := ite_eq_iff.mp h
    · cases h; exact ⟨⟨hres, hopc, nofun⟩, rfl⟩
    obtain ⟨hopc, h⟩ | ⟨-, h⟩ := ite_eq_iff.mp h
    · exact plain h hopc rfl
    exact nomatch h
  · rintro ⟨⟨hres, hopc, hf⟩, hi⟩
    rw [← hi]
    cases i with
    | enableMode _ | setBorder _ => simp only [decode, hres, hopc]; rfl
    | _ =>
      simp only [decode, hres, hopc]
      exact withoutFlag_eq_op_iff.mpr ⟨hf rfl, rfl⟩

/-- A row that selects `W0` gives its operation (R95). -/
theorem decode_of_selects {d : Descriptor} {i : Instr} (h : i.row.selects d.w0 = true) :
    decode d = .op (i.withOperands d) := by
  rw [decode_eq_op_iff, row_withOperands]
  exact ⟨h, by cases i <;> rfl⟩

/-- The rows are disjoint (R95), since decode is a function. -/
theorem row_eq_of_selects {w0 : Word} {i j : Instr} (hi : i.row.selects w0 = true) (hj : j.row.selects w0 = true) :
    i.row = j.row := by
  have hdi := decode_of_selects (d := ⟨w0, 0, 0, 0, 0⟩) hi
  have hdj := decode_of_selects (d := ⟨w0, 0, 0, 0, 0⟩) hj
  have h := congrArg Instr.row (Decoded.op.inj (hdi.symm.trans hdj))
  simpa using h

/-- What a descriptor decodes to, with the operands of another. -/
def Decoded.withOperands (d : Descriptor) : Decoded → Decoded
  | .op i => .op (i.withOperands d)
  | .illegal why => .illegal why

theorem withoutFlag_withOperands {d e : Descriptor} (hf : d.flag = e.flag) (i : Instr) :
    (withoutFlag e i).withOperands d = withoutFlag d (i.withOperands d) := by
  simp only [withoutFlag, apply_ite (Decoded.withOperands d), hf]
  rfl

/-- `W1` to `W4` only supply operands (R95): of two descriptors with one `W0`, each decodes as the other does, up to the
operands. -/
theorem decode_eq_withOperands {d e : Descriptor} (hw : d.w0 = e.w0) : decode d = (decode e).withOperands d := by
  have hres : d.reserved = e.reserved := congrArg (BitVec.extractLsb' 9 23) hw
  have hopc : d.opc = e.opc := congrArg (BitVec.extractLsb' 0 8) hw
  have hf : d.flag = e.flag := congrArg (BitVec.getLsbD · 8) hw
  simp only [decode, hres, hopc, apply_ite (Decoded.withOperands d), withoutFlag_withOperands hf]
  simp only [Decoded.withOperands, Instr.withOperands]

theorem rect_congr {d e : Descriptor} (h1 : d.w1 = e.w1) (h2 : d.w2 = e.w2) : d.rect = e.rect := by
  simp only [Descriptor.rect, Descriptor.a0, Descriptor.a1, Descriptor.a2, Descriptor.a3, h1, h2]

/-- An operation takes its operands from the fields its row of R96 uses. -/
theorem withOperands_congr {d e : Descriptor} {i : Instr} (hf : d.flag = e.flag)
    (h12 : i.opc = 0x02#8 ∨ i.opc = 0x03#8 ∨ i.opc = 0x11#8 → d.w1 = e.w1 ∧ d.w2 = e.w2)
    (h34 : i.opc = 0x03#8 → d.w3 = e.w3 ∧ d.w4 = e.w4) : i.withOperands d = i.withOperands e := by
  cases i with
  | clearRegion _ =>
    obtain ⟨h1, h2⟩ := h12 (.inl rfl)
    simp only [Instr.withOperands, rect_congr h1 h2]
  | blit _ _ _ =>
    obtain ⟨h1, h2⟩ := h12 (.inr (.inl rfl))
    obtain ⟨h3, h4⟩ := h34 rfl
    simp only [Instr.withOperands, rect_congr h1 h2, h3, h4]
  | setAddressWindow _ _ _ _ =>
    obtain ⟨h1, h2⟩ := h12 (.inr (.inr rfl))
    simp only [Instr.withOperands, Descriptor.a0, Descriptor.a1, Descriptor.a2, Descriptor.a3, h1, h2]
  | enableMode _ | setBorder _ => simp only [Instr.withOperands, hf]
  | clearAll | init | transfer | refresh | clearDisplay => rfl

/-- Words an operation does not use have no effect (R97). -/
theorem decode_eq_of_used_words_eq {d e : Descriptor} (hw : d.w0 = e.w0)
    (h12 : d.opc = 0x02#8 ∨ d.opc = 0x03#8 ∨ d.opc = 0x11#8 → d.w1 = e.w1 ∧ d.w2 = e.w2)
    (h34 : d.opc = 0x03#8 → d.w3 = e.w3 ∧ d.w4 = e.w4) : decode d = decode e := by
  have hf : d.flag = e.flag := congrArg (BitVec.getLsbD · 8) hw
  rw [decode_eq_withOperands hw.symm]
  cases hd : decode d with
  | illegal why => rfl
  | op i =>
    obtain ⟨hsel, hi⟩ := decode_eq_op_iff.mp hd
    obtain ⟨-, hopc, -⟩ := (selects_row_iff i d).mp hsel
    exact congrArg Decoded.op (hi.symm.trans (withOperands_congr hf (hopc ▸ h12) (hopc ▸ h34)))

/-- `F` must be 0 where it is not used (R97). -/
theorem decode_illegal_of_flag {d : Descriptor} (hf : d.flag = true) (h12 : d.opc ≠ 0x12#8) (h15 : d.opc ≠ 0x15#8) :
    ∃ why, decode d = .illegal why := by
  cases hd : decode d with
  | illegal why => exact ⟨why, rfl⟩
  | op i =>
    obtain ⟨-, hopc, hnf⟩ := (selects_row_iff i d).mp (decode_eq_op_iff.mp hd).1
    cases i with
    | enableMode _ => exact absurd hopc h12
    | setBorder _ => exact absurd hopc h15
    | _ => exact absurd ((hnf rfl).symm.trans hf) Bool.false_ne_true

/-! ### The canonical encoding (R105) -/

@[simp] theorem encode_opc (i : Instr) : (encode i).opc = i.opc := by
  cases i <;> simp [encode, Instr.opc]

@[simp] theorem encode_reserved (i : Instr) : (encode i).reserved = 0#23 := by
  cases i <;> simp [encode]

@[simp] theorem encode_flag (i : Instr) : (encode i).flag = i.flag := by
  cases i <;> simp [encode, Instr.flag]

theorem encode_canonicalFor (i : Instr) : (encode i).canonicalFor i = true := by
  cases i <;> simp [encode, Descriptor.canonicalFor, Descriptor.pack]

theorem row_selects_encode (i : Instr) : i.row.selects (encode i).w0 = true := by
  rw [selects_row_iff]
  exact ⟨encode_reserved i, encode_opc i, fun h => by cases i <;> simp_all [Instr.flag, Instr.usesFlag]⟩

theorem toInt_ofInt_of_coordInRange {x : Int} (h : coordInRange x = true) : (BitVec.ofInt 16 x).toInt = x := by
  have hx := of_decide_eq_true h
  exact BitVec.toInt_ofInt_eq_self (by decide) (by omega) (by omega)

theorem toNat_ofNat_of_addrInRange {n : Nat} (h : addrInRange n = true) : (BitVec.ofNat 32 n).toNat = n :=
  (BitVec.toNat_ofNat n 32).trans (Nat.mod_eq_of_lt (of_decide_eq_true h))

theorem rect_pack {opc : Byte} {f : Bool} {b l : Word} {r : Rect} (h : r.wellFormed = true) :
    (Descriptor.pack opc f (.ofInt 16 r.left) (.ofInt 16 r.top) (.ofInt 16 r.width) (.ofInt 16 r.height) b l).rect
      = r := by
  simp only [Rect.wellFormed, Bool.and_eq_true] at h
  obtain ⟨⟨⟨hl, ht⟩, hw⟩, hh⟩ := h
  simp only [Descriptor.rect, pack_a0, pack_a1, pack_a2, pack_a3, toInt_ofInt_of_coordInRange, hl, ht, hw, hh]

/-- The fields of an encoding carry the operands, each within its range (R92, R104). -/
theorem withOperands_encode {i : Instr} (h : i.wellFormed = true) : i.withOperands (encode i) = i := by
  cases i with
  | clearRegion r => exact congrArg Instr.clearRegion (rect_pack h)
  | blit base len r =>
    simp only [Instr.wellFormed, Bool.and_eq_true] at h
    obtain ⟨⟨hb, hl⟩, hr⟩ := h
    simp only [Instr.withOperands, encode, pack_w3, pack_w4, rect_pack hr, toNat_ofNat_of_addrInRange, hb, hl]
  | setAddressWindow xs xe ys ye =>
    simp only [Instr.wellFormed, Bool.and_eq_true] at h
    obtain ⟨⟨⟨hxs, hxe⟩, hys⟩, hye⟩ := h
    simp only [Instr.withOperands, encode, pack_a0, pack_a1, pack_a2, pack_a3, toInt_ofInt_of_coordInRange, hxs, hxe,
      hys, hye]
  | enableMode m => simp [Instr.withOperands, Instr.flag]
  | setBorder w => simp [Instr.withOperands, Instr.flag]
  | clearAll | init | transfer | refresh | clearDisplay => rfl

theorem decode_encode {i : Instr} (h : i.wellFormed = true) : decode (encode i) = .op i :=
  decode_eq_op_iff.mpr ⟨row_selects_encode i, withOperands_encode h⟩

theorem operand_fields_eq_zero {d : Descriptor} (h1 : d.w1 = 0#32) (h2 : d.w2 = 0#32) :
    d.a0 = 0 ∧ d.a1 = 0 ∧ d.a2 = 0 ∧ d.a3 = 0 := by
  simp [Descriptor.a0, Descriptor.a1, Descriptor.a2, Descriptor.a3, h1, h2]

/-- The encoding of the operation a canonical descriptor carries has that descriptor's fields. -/
theorem encode_withOperands {d : Descriptor} {i : Instr} (hf : i.usesFlag = false → d.flag = false)
    (hc : d.canonicalFor i = true) :
    encode (i.withOperands d) = .pack i.opc d.flag d.a0 d.a1 d.a2 d.a3 d.w3 d.w4 := by
  cases i with
  | blit _ _ _ =>
    simp only [encode, Instr.withOperands, Instr.opc, Descriptor.rect, BitVec.ofInt_toInt, BitVec.ofNat_toNat,
      BitVec.setWidth_eq, hf rfl]
  | clearRegion _ | setAddressWindow _ _ _ _ =>
    simp only [Descriptor.canonicalFor, Bool.and_eq_true, decide_eq_true_eq] at hc
    obtain ⟨h3, h4⟩ := hc
    simp only [encode, Instr.withOperands, Instr.opc, Descriptor.rect, BitVec.ofInt_toInt, hf rfl, h3, h4]
    rfl
  | enableMode _ | setBorder _ =>
    simp only [Descriptor.canonicalFor, Bool.and_eq_true, decide_eq_true_eq] at hc
    obtain ⟨⟨⟨h1, h2⟩, h3⟩, h4⟩ := hc
    simp only [encode, Instr.withOperands, Instr.opc, operand_fields_eq_zero h1 h2, flagOfMode_modeOfFlag, h3, h4]
    rfl
  | clearAll | init | transfer | refresh | clearDisplay =>
    simp only [Descriptor.canonicalFor, Bool.and_eq_true, decide_eq_true_eq] at hc
    obtain ⟨⟨⟨h1, h2⟩, h3⟩, h4⟩ := hc
    simp only [encode, Instr.withOperands, Instr.opc, operand_fields_eq_zero h1 h2, hf rfl, h3, h4]
    rfl

/-- R105: a canonical descriptor is the encoding of what it decodes to. -/
theorem encode_eq_of_canonicalFor {d : Descriptor} {i : Instr} (hd : decode d = .op i)
    (hc : d.canonicalFor i = true) : encode i = d := by
  obtain ⟨hsel, hi⟩ := decode_eq_op_iff.mp hd
  obtain ⟨hres, hopc, hf⟩ := (selects_row_iff i d).mp hsel
  calc encode i = encode (i.withOperands d) := by rw [hi]
    _ = .pack d.opc d.flag d.a0 d.a1 d.a2 d.a3 d.w3 d.w4 := hopc ▸ encode_withOperands hf hc
    _ = d := pack_fields hres

/-! ### The memory image (R93) -/

/-- A word is its four bytes, least significant first. -/
theorem word_of_bytes (w : Word) : (w.extractLsb' 0 8).setWidth 32 ||| (w.extractLsb' 8 8).setWidth 32 <<< 8
    ||| (w.extractLsb' 16 8).setWidth 32 <<< 16 ||| (w.extractLsb' 24 8).setWidth 32 <<< 24 = w := by
  ext i hi
  grind

/-- Reading the memory image back gives the descriptor. -/
theorem ofBytes_toBytes (d : Descriptor) : Descriptor.ofBytes d.toBytes = some d := by
  simp [Descriptor.ofBytes, Descriptor.toBytes, wordBytes, wordAt, word_of_bytes]

theorem toBytes_length (d : Descriptor) : d.toBytes.length = 20 := rfl

/-! ### The obligations -/

/-- Settles O1: decode is the selected row with the descriptor's operands (`decode_eq_op_iff`), and a descriptor with
the reserved bits 0 is the packing of its fields. -/
theorem decodeAndEncodeAgree : Obligations.DecodeAndEncodeAgree := by
  unfold Obligations.DecodeAndEncodeAgree
  refine ⟨fun i => ⟨encode_opc i, encode_reserved i, encode_canonicalFor i, encode_flag i⟩, ?_, ?_,
    fun i => decode_encode, fun d i hd => ⟨fun h => h ▸ encode_canonicalFor i, encode_eq_of_canonicalFor hd⟩⟩
  · intro base len r
    refine ⟨rfl, rfl, ?_⟩
    rintro d (rfl | rfl) <;> simp [encode]
  · intro xs xe ys ye
    simp [encode]

/-- Settles O2, through the row of each operation: decode is a function, so the rows are disjoint. -/
theorem decodeSelectsByMaskAndMatch : Obligations.DecodeSelectsByMaskAndMatch := by
  unfold Obligations.DecodeSelectsByMaskAndMatch
  refine ⟨?_, ?_, ?_, ?_⟩
  · intro d row hrow hsel
    obtain ⟨i, rfl⟩ := exists_row_eq_of_mem hrow
    exact ⟨i.withOperands d, decode_of_selects hsel, congrArg OpcodeRow.mnemonic (row_withOperands d i)⟩
  · intro d i hd
    exact ⟨i.row, row_mem_opcodeTable i, (decode_eq_op_iff.mp hd).1, rfl⟩
  · intro w0 row row' hrow hrow' hsel hsel'
    obtain ⟨i, rfl⟩ := exists_row_eq_of_mem hrow
    obtain ⟨j, rfl⟩ := exists_row_eq_of_mem hrow'
    exact row_eq_of_selects hsel hsel'
  · intro d hnone
    cases hd : decode d with
    | illegal why => exact ⟨why, rfl⟩
    | op i =>
      have hsel := (decode_eq_op_iff.mp hd).1
      rw [hnone i.row (row_mem_opcodeTable i)] at hsel
      exact absurd hsel Bool.false_ne_true

/-- Settles O4: `W0` fixes the row, and `withOperands` reads only the words the row uses. -/
theorem unusedFieldsAreIgnored : Obligations.UnusedFieldsAreIgnored :=
  ⟨fun _ _ => decode_eq_of_used_words_eq, fun _ => decode_illegal_of_flag, encode_canonicalFor⟩

/-- Settles O5: a word is its four bytes (`word_of_bytes`). -/
theorem memoryImageIsLittleEndian : Obligations.MemoryImageIsLittleEndian := by
  unfold Obligations.MemoryImageIsLittleEndian
  refine ⟨fun d => ⟨toBytes_length d, ofBytes_toBytes d, fun j hj => ?_⟩, by decide, by decide⟩
  interval_cases j <;> exact ⟨rfl, rfl, rfl, rfl, rfl⟩

/-- Settles O37: within the window's ranges each quotient and remainder fits a byte. -/
theorem windowPayloadBytes : Obligations.WindowPayloadBytes := by
  unfold Obligations.WindowPayloadBytes
  refine ⟨fun x hx => ?_, fun y hy => ?_, fun c => rfl⟩
  · exact Nat.mod_eq_of_lt (by omega)
  · have hlo : y % 256 < 2 ^ 8 := by omega
    have hhi : y / 256 < 2 ^ 8 := by omega
    simp only [Machine.yBytes, List.map_cons, List.map_nil, BitVec.toNat_ofNat, Nat.mod_eq_of_lt hlo,
      Nat.mod_eq_of_lt hhi]

end Sys2Proof
end

section
/-! PROOFS of the framebuffer unit's statements (spec/40_framebuffer_ops.md R121 to R131): a framebuffer operation is
rejected or fills a list of addresses, the filled memory read back, and BLIT as a fill of CLEAR_REGION's addresses from the
source. -/

namespace Sys2Proof.Machine

/-! ### Filling a list of addresses -/

/-- The bytes of a function stored at the addresses of a list: every address listed has the function's byte. -/
@[simp] theorem Memory.lookup_writeAll_map (as : List Nat) (value : Nat → Byte) (m : Memory) (a : Nat) :
    Memory.lookup a (m.writeAll (as.map fun b => (b, value b))) =
      if a ∈ as then some (value a) else Memory.lookup a m := by
  split
  case isTrue h =>
    refine Memory.lookup_writeAll_of_mem (List.mem_map_of_mem (f := fun b => (b, value b)) h) fun w hw hwa => ?_
    obtain ⟨b, -, rfl⟩ := List.mem_map.mp hw
    exact congrArg value hwa
  case isFalse h =>
    refine Memory.lookup_writeAll_of_not_mem fun w hw hwa => h ?_
    obtain ⟨b, hb, rfl⟩ := List.mem_map.mp hw
    exact hwa ▸ hb

/-- A second fill finds every listed byte as it would write it, and canonical memories with equal contents are equal. -/
theorem Memory.writeAll_map_twice (as : List Nat) (value : Nat → Byte) {m : Memory} (hw : m.wf) :
    (m.writeAll (as.map fun a => (a, value a))).writeAll (as.map fun a => (a, value a)) =
      m.writeAll (as.map fun a => (a, value a)) := by
  refine Memory.ext (Memory.wf_writeAll _ (Memory.wf_writeAll _ hw)) (Memory.wf_writeAll _ hw) fun a => ?_
  simp only [Memory.lookup_writeAll_map]
  split <;> rfl

/-- The state in which a framebuffer operation ends that sets the listed addresses to the bytes of a function. -/
def filled (as : List Nat) (value : Nat → Byte) (s : State) : State :=
  finish { s with fbMem := s.fbMem.writeAll (as.map fun a => (a, value a)) }

theorem readFb_filled (as : List Nat) (value : Nat → Byte) (s : State) (a : Nat) :
    readFb (filled as value s) a = if a ∈ as then value a else readFb s a := by
  have h : Memory.lookup a (filled as value s).fbMem = _ := Memory.lookup_writeAll_map as value s.fbMem a
  split at h
  case isTrue ha => rw [if_pos ha, readFb_of_listed h]
  case isFalse ha => rw [if_neg ha, readFb_of_lookup (t := filled as value s) (s := s) rfl h]

theorem filled_filled (as : List Nat) (value : Nat → Byte) {s : State} (hw : s.fbMem.wf) :
    filled as value (filled as value s) = filled as value s :=
  congrArg (fun m => finish { s with fbMem := m }) (Memory.writeAll_map_twice as value hw)

/-! ### What the operations answer: rejected, or a fill -/

/-- R125's source check as inequalities. -/
theorem sourceValid_iff (base len : Nat) (r : Rect) :
    sourceValid base len r = true ↔ r.height * (r.width / 8) ≤ len ∧ base + len ≤ 2 ^ 32 := by
  rw [sourceValid, Bool.and_eq_true, decide_eq_true_eq, decide_eq_true_eq, blitNeed]

theorem fillAndFinish_regionAddrs {r : Rect} (hv : rectValid r = true) (value : Nat → Byte) (s : State) :
    fillAndFinish ((regionAddrs s.cfg r).map fun a => (a, value a)) s =
      .next (filled (regionAddrs s.cfg r) value s) := by
  refine fillAndFinish_of_inRange fun w hw => ?_
  obtain ⟨a, ha, rfl⟩ := List.mem_map.mp hw
  exact ((mem_regionAddrs hv).mp ha).1

theorem exec_clearAll (s : State) : exec .clearAll s = .next (filled (allAddrs s.cfg) (fun _ => 0xFF#8) s) := rfl

theorem exec_clearRegion_of_valid {r : Rect} (hv : rectValid r = true) (s : State) :
    exec (.clearRegion r) s = .next (filled (regionAddrs s.cfg r) (fun _ => 0xFF#8) s) :=
  (if_pos hv).trans (fillAndFinish_regionAddrs hv _ s)

theorem exec_clearRegion_of_invalid {r : Rect} (hv : rectValid r = false) (s : State) :
    exec (.clearRegion r) s = .next (raise .invalidGeometry s) :=
  if_neg (by simp [hv])

theorem exec_blit_of_invalid {base len : Nat} {r : Rect} (h : ¬ (rectValid r = true ∧ sourceValid base len r = true))
    (s : State) : exec (.blit base len r) s = .next (raise .invalidGeometry s) :=
  if_neg (by simpa using h)

/-! ### The clipped copy (R126, R127) -/

section clip
variable (c : Config) (r : Rect)

theorem blitClip_dx : (blitClip c r).dx = max r.left 0 := by
  simp only [blitClip]; omega

theorem blitClip_dy : (blitClip c r).dy = max r.top 0 := by
  simp only [blitClip]; omega

theorem blitClip_ew : (blitClip c r).ew = min (r.left + r.width) c.fbW - max r.left 0 := by
  simp only [blitClip]; omega

theorem blitClip_eh : (blitClip c r).eh = min (r.top + r.height) c.fbH - max r.top 0 := by
  simp only [blitClip]; omega

theorem blitClip_sx : (blitClip c r).sx = (max r.left 0 - r.left) / 8 := by
  simp only [blitClip]; omega

theorem blitClip_sy : (blitClip c r).sy = max r.top 0 - r.top := by
  simp only [blitClip]; omega

end clip

/-- The SRC address of the byte that belongs at framebuffer address `a`: row `a / FB_STRIDE - top` of the source image, whose
rows are `width / 8` bytes, column `a % FB_STRIDE - left / 8` (R127, R128). -/
def blitSource (c : Config) (base : Nat) (r : Rect) (a : Nat) : Nat :=
  base + (((a / c.fbStride : Nat) - r.top) * (r.width / 8) + ((a % c.fbStride : Nat) - r.left / 8)).toNat

/-- The source of the byte of row `y`, column `k`, counted in the source image as row `j`, column `i`. -/
theorem blitSource_addr {c : Config} {base : Nat} {r : Rect} {y k j i : Nat} (hw : 0 ≤ r.width) (hk : k < c.fbStride)
    (hj : (y : Int) - r.top = j) (hi : (k : Int) - r.left / 8 = i) :
    blitSource c base r (y * c.fbStride + k) = base + j * (r.width / 8).toNat + i := by
  have hn : r.width / 8 = ((r.width / 8).toNat : Int) := by omega
  rw [blitSource, addr_div hk, addr_mod hk, hj, hi, hn]
  norm_cast
  rw [← Nat.add_assoc]

/-- BLIT moves to the addresses CLEAR_REGION writes, each byte from its place in the source. -/
theorem blitMoves_eq_map_regionAddrs (c : Config) (base : Nat) {r : Rect} (hv : rectValid r = true) :
    blitMoves c base r = (regionAddrs c r).map fun a => (a, blitSource c base r a) := by
  obtain ⟨hw, hh, hl, hwm⟩ := (rectValid_iff r).mp hv
  have hs := fbStride_mul c
  simp only [blitMoves, regionAddrs, blitClip_dx, blitClip_dy, blitClip_ew, blitClip_eh, blitClip_sx, blitClip_sy]
  split
  case isTrue hempty => rw [if_pos (by omega), List.map_nil]
  case isFalse hne =>
    have hcols : (min (r.left + r.width) c.fbW - max r.left 0) / 8 =
        min (r.left + r.width) c.fbW / 8 - max r.left 0 / 8 := by omega
    rw [if_neg (by omega), List.map_map, hcols]
    refine List.map_congr_left fun p hp => ?_
    obtain ⟨hrow, hcol⟩ := mem_grid.mp hp
    have hsrc := blitSource_addr (c := c) (base := base) (y := (max r.top 0).toNat + p.1)
      (k := (max r.left 0 / 8).toNat + p.2) (j := (max r.top 0 - r.top).toNat + p.1)
      (i := ((max r.left 0 - r.left) / 8).toNat + p.2) hw (by omega) (by omega) (by omega)
    exact Prod.ext (Nat.add_assoc ..) ((Nat.add_assoc ..).trans hsrc.symm)

/-- An address of the framebuffer lies in one of its rows, at one of the row's byte columns. -/
theorem row_col_lt_of_lt_fbSize {c : Config} {a : Nat} (h : a < c.fbSize) :
    a / c.fbStride < c.fbH ∧ a % c.fbStride < c.fbStride := by
  have hpos : 0 < c.fbStride := Nat.pos_of_ne_zero fun h0 => by simp [Config.fbSize, h0] at h
  exact ⟨(Nat.div_lt_iff_lt_mul hpos).2 h, Nat.mod_lt _ hpos⟩

/-- Every byte inside the rectangle has its source among the bytes the unclipped rectangle needs (R125, R129). -/
theorem blitSource_bounds {c : Config} {r : Rect} {a : Nat} (base : Nat) (hv : rectValid r = true)
    (ha : insideRect c r a) :
    base ≤ blitSource c base r a ∧ (blitSource c base r a : Int) < base + r.height * (r.width / 8) := by
  obtain ⟨hw, hh, hl, hwm⟩ := (rectValid_iff r).mp hv
  obtain ⟨-, htop, hbottom, hleft, hright⟩ := ha
  have hrow : 0 ≤ ((a / c.fbStride : Nat) - r.top) * (r.width / 8) := Int.mul_nonneg (by omega) (by omega)
  have hnext : ((a / c.fbStride : Nat) - r.top + 1) * (r.width / 8) ≤ r.height * (r.width / 8) :=
    Int.mul_le_mul_of_nonneg_right (by omega) (by omega)
  rw [Int.add_mul, Int.one_mul] at hnext
  unfold blitSource
  omega

theorem exec_blit_of_valid {base len : Nat} {r : Rect} (hv : rectValid r = true) (hsrc : sourceValid base len r = true)
    (s : State) : exec (.blit base len r) s =
      .next (filled (regionAddrs s.cfg r) (fun a => readSrc s (blitSource s.cfg base r a)) s) := by
  rw [← fillAndFinish_regionAddrs hv]
  refine (if_pos (by simp [hv, hsrc])).trans ?_
  rw [blitMoves_eq_map_regionAddrs _ _ hv, List.map_map]
  rfl

end Sys2Proof.Machine

namespace Sys2Proof
open Machine

/-! ### The obligations -/

/-- Settles O17: CLEAR_ALL fills the addresses below `FB_SIZE`. -/
theorem clearAllSetsEveryBit : Obligations.ClearAllSetsEveryBit := by
  unfold Obligations.ClearAllSetsEveryBit
  refine ⟨fun d hd => decode_of_selects (i := .clearAll) (by rw [hd]; decide),
    fun s => ⟨_, exec_clearAll s, rfl, fun a ha => ?_, fun a ha => ?_⟩⟩
  · have hread : readFb (filled (allAddrs s.cfg) (fun _ => 0xFF#8) s) a = 0xFF#8 := by
      rw [readFb_filled, if_pos (show a ∈ allAddrs s.cfg from List.mem_range.mpr ha)]
    rw [hread]
    exact ⟨rfl, by decide⟩
  · have hout : a ∉ allAddrs s.cfg := fun h => absurd (List.mem_range.mp h) (by omega)
    exact (Memory.lookup_writeAll_map ..).trans (if_neg hout)

/-- Settles O18: a valid rectangle fills the addresses inside it (`mem_regionAddrs`). -/
theorem clearRegionFillsTheClippedRectangle : Obligations.ClearRegionFillsTheClippedRectangle := by
  unfold Obligations.ClearRegionFillsTheClippedRectangle
  refine ⟨fun d hd => decode_of_selects (i := .clearRegion default) (by rw [hd]; decide), fun s r =>
    ⟨fun hv => exec_clearRegion_of_invalid hv s, fun hv =>
      ⟨_, exec_clearRegion_of_valid hv s, rfl, fun a ha => ?_, fun a ha => ?_⟩⟩⟩
  · rw [readFb_filled, if_pos ((mem_regionAddrs hv).mpr ha)]
  · rw [readFb_filled, if_neg (mt (mem_regionAddrs hv).mp ha)]

/-- Settles O22: `RectValid` with its divisibility as remainders. -/
theorem unalignedOrNegativeRectangleIsRejected : Obligations.UnalignedOrNegativeRectangleIsRejected := by
  unfold Obligations.UnalignedOrNegativeRectangleIsRejected
  intro s r base len h
  have hv : ¬ rectValid r = true := by
    intro hv
    obtain ⟨hw, hh, hl, hwm⟩ := (rectValid_iff r).mp hv
    exact h ⟨hw, hh, Int.dvd_of_emod_eq_zero hl, Int.dvd_of_emod_eq_zero hwm⟩
  exact ⟨exec_clearRegion_of_invalid (Bool.eq_false_of_not_eq_true hv) s, exec_blit_of_invalid (fun hc => hv hc.1) s⟩

/-- Settles O23: the bytes read lie among the needed ones (`blitSource_bounds`), so states that agree there fill alike. -/
theorem blitSourceIsCheckedUnclipped : Obligations.BlitSourceIsCheckedUnclipped := by
  unfold Obligations.BlitSourceIsCheckedUnclipped
  refine ⟨fun s r base len _ hbad => ?_, ?_, fun r hwf hv => ?_⟩
  · refine exec_blit_of_invalid (fun hc => ?_) s
    obtain ⟨hneed, hend⟩ := (sourceValid_iff base len r).mp hc.2
    omega
  · intro s s' r base len hv hneed hend hcfg hmem hagree
    have hsrc := (sourceValid_iff base len r).mpr ⟨hneed, hend⟩
    refine ⟨_, _, exec_blit_of_valid hv hsrc s, exec_blit_of_valid hv hsrc s', rfl, rfl, ?_⟩
    have hbytes : ((regionAddrs s.cfg r).map fun a => (a, readSrc s' (blitSource s.cfg base r a))) =
        (regionAddrs s.cfg r).map fun a => (a, readSrc s (blitSource s.cfg base r a)) :=
      List.map_congr_left fun a ha => by
        obtain ⟨hlo, hhi⟩ := blitSource_bounds base hv ((mem_regionAddrs hv).mp ha)
        rw [hagree _ hlo hhi]
    simp only [filled, finish_fbMem, hcfg, hmem, hbytes]
  · obtain ⟨hw, hh, -, -⟩ := (rectValid_iff r).mp hv
    simp only [Rect.wellFormed, coordInRange, Bool.and_eq_true, decide_eq_true_eq] at hwf
    have hle : r.height * (r.width / 8) ≤ 32767 * 4095 :=
      Int.mul_le_mul (by omega) (by omega) (by omega) (by omega)
    exact ⟨hle, by omega⟩

/-- Settles O24: the closed forms of the six components, and the alignment of a valid rectangle and of `FB_W`. -/
theorem blitClippingHasItsClosedForm : Obligations.BlitClippingHasItsClosedForm := by
  unfold Obligations.BlitClippingHasItsClosedForm
  intro c r hv
  obtain ⟨-, -, hl, hwm⟩ := (rectValid_iff r).mp hv
  have hW := c.fbW_aligned
  refine ⟨blitClip_dx c r, blitClip_ew c r, blitClip_sx c r, blitClip_dy c r, blitClip_eh c r, blitClip_sy c r, ?_⟩
  rw [blitClip_dx, blitClip_ew, blitClip_sx]
  omega

/-- Settles O25: a BLIT that passes its checks fills the addresses inside the rectangle from the source. -/
theorem blitCopiesTheClippedSource : Obligations.BlitCopiesTheClippedSource := by
  unfold Obligations.BlitCopiesTheClippedSource
  refine ⟨fun d hd => decode_of_selects (i := .blit 0 0 default) (by rw [hd]; decide), fun s r base len =>
    ⟨fun hbad => exec_blit_of_invalid (fun ⟨hv, hsrc⟩ => hbad ⟨hv, (sourceValid_iff base len r).mp hsrc⟩) s,
      fun hv hneed hend =>
        ⟨_, exec_blit_of_valid hv ((sourceValid_iff base len r).mpr ⟨hneed, hend⟩) s, rfl, fun a ha => ?_,
          fun a ha => ?_⟩⟩⟩
  · rw [readFb_filled, if_pos ((mem_regionAddrs hv).mpr ha), blitSource]
  · rw [readFb_filled, if_neg (mt (mem_regionAddrs hv).mp ha)]

/-- Settles O26: both operations write the addresses inside the rectangle; the rest is the closed form of the clipping. -/
theorem blitAndFillStayInBounds : Obligations.BlitAndFillStayInBounds := by
  unfold Obligations.BlitAndFillStayInBounds
  intro c r hv
  refine ⟨fun a => (mem_regionAddrs hv).mp, fun base len hsrc hew heh => ?_⟩
  obtain ⟨hw, hh, hl, hwm⟩ := (rectValid_iff r).mp hv
  obtain ⟨hneed, -⟩ := (sourceValid_iff base len r).mp hsrc
  have hs := fbStride_mul c
  rw [blitClip_ew] at hew
  rw [blitClip_eh] at heh
  rw [blitClip_dx, blitClip_dy, blitClip_ew, blitClip_eh, blitClip_sx, blitClip_sy]
  refine ⟨by omega, by omega, by omega, by omega, by omega, by omega, fun m hm => ?_⟩
  rw [blitMoves_eq_map_regionAddrs c base hv] at hm
  obtain ⟨a, ha, rfl⟩ := List.mem_map.mp hm
  have hin := (mem_regionAddrs hv).mp ha
  obtain ⟨hlo, hhi⟩ := blitSource_bounds base hv hin
  obtain ⟨hsize, htop, hbottom, hleft, hright⟩ := hin
  obtain ⟨hrow, hcol⟩ := row_col_lt_of_lt_fbSize hsize
  dsimp only
  exact ⟨hsize, max_le htop (Int.natCast_nonneg _), by omega, by omega, by omega, hlo, by omega, hneed⟩

/-- Settles O28: an operation is rejected by its operands alone, and a fill repeated is the same fill (`filled_filled`). -/
theorem framebufferOperationsAreIdempotent : Obligations.FramebufferOperationsAreIdempotent := by
  unfold Obligations.FramebufferOperationsAreIdempotent
  intro i s t hi hw h
  cases i with
  | clearAll =>
    rw [exec_clearAll] at h
    cases h
    exact (exec_clearAll _).trans (congrArg _ (filled_filled _ _ hw))
  | clearRegion r =>
    cases hv : rectValid r with
    | true =>
      rw [exec_clearRegion_of_valid hv] at h
      cases h
      exact (exec_clearRegion_of_valid hv _).trans (congrArg _ (filled_filled _ _ hw))
    | false =>
      rw [exec_clearRegion_of_invalid hv] at h
      cases h
      exact exec_clearRegion_of_invalid hv _
  | blit base len r =>
    by_cases hc : rectValid r = true ∧ sourceValid base len r = true
    · obtain ⟨hv, hsrc⟩ := hc
      rw [exec_blit_of_valid hv hsrc] at h
      cases h
      exact (exec_blit_of_valid hv hsrc _).trans (congrArg _ (filled_filled _ _ hw))
    · rw [exec_blit_of_invalid hc] at h
      cases h
      exact exec_blit_of_invalid hc _
  | init | setAddressWindow | enableMode | transfer | refresh | setBorder | clearDisplay => cases hi

end Sys2Proof
end

section
/-! PROOFS of the micro-operations' statements (spec/41_bus_primitives.md R141 to R147): what is attached to a position that
performs no transaction, the samples of a WAIT one by one and in a row, and the step of an operation in flight for each
micro-operation. -/

namespace Sys2Proof.Machine

/-! ### Positions of a micro-program that perform no transaction -/

/-- Every program ends in a transaction or a WAIT. -/
theorem eq_wait_of_last_of_noTransaction {i : Instr} {s : State} {k : Nat} {m : MicroOp} (hm : (microProgram i s)[k]? = some m)
    (ht : m.transaction = none) (hk : k + 1 = (microProgram i s).length) : m = .wait := by
  rw [microProgram_length] at hk
  cases i with
  | clearAll | clearRegion | blit => cases hk
  | enableMode | refresh | clearDisplay => cases hk; cases hm; rfl
  | init | setAddressWindow | transfer | setBorder => cases hk; cases hm; cases ht

/-- The window and the border are attached to transactions (R148, R161, R167), and so is everything attached before the
completion (R168); a completion sets the phase and the mode (R37). -/
theorem afterOf_of_noTransaction {i : Instr} {s : State} {k : Nat} {m : MicroOp}
    (hm : (microProgram i s)[k]? = some m) (ht : m.transaction = none) (t : State) :
    afterOf i k t = { t with phase := (afterOf i k t).phase, mode := (afterOf i k t).mode,
                             modeValid := (afterOf i k t).modeValid } ∧
    (k + 1 < (microProgram i s).length → afterOf i k t = t) := by
  rw [microProgram_length]
  cases i with
  | clearAll | clearRegion | blit => exact ⟨rfl, fun _ => rfl⟩
  | init =>
    simp only [afterOf, initAfter]
    split
    · cases hm; cases ht
    · cases hm; cases ht
    · cases hm; cases ht
    · exact ⟨rfl, fun _ => rfl⟩
  | setAddressWindow =>
    simp only [afterOf, setAddressWindowAfter]
    split
    · cases hm; cases ht
    · exact ⟨rfl, fun _ => rfl⟩
  | enableMode =>
    simp only [afterOf, enableModeAfter]
    split
    · exact ⟨rfl, fun hk => absurd hk (Nat.lt_irrefl 6)⟩
    · exact ⟨rfl, fun _ => rfl⟩
  | transfer =>
    simp only [afterOf, transferAfter]
    split
    · cases hm; cases ht
    · exact ⟨rfl, fun _ => rfl⟩
  | refresh =>
    simp only [afterOf, refreshAfter]
    split
    · exact ⟨rfl, fun hk => absurd hk (Nat.lt_irrefl 4)⟩
    · exact ⟨rfl, fun _ => rfl⟩
  | setBorder =>
    simp only [afterOf, setBorderAfter]
    split
    · cases hm; cases ht
    · exact ⟨rfl, fun _ => rfl⟩
  | clearDisplay =>
    simp only [afterOf, clearDisplayAfter]
    split
    · cases hm; cases ht
    · cases hm; cases ht
    · exact ⟨rfl, fun hk => absurd hk (Nat.lt_irrefl 14)⟩
    · exact ⟨rfl, fun _ => rfl⟩

/-! ### One sample of a WAIT (R144, R145) -/

/-- `POLLS` after `k` samples in a row that found busy asserted and did not end the WAIT: without a bound it does not count. -/
def pollsAfter (k : Nat) (s : State) : Nat := if s.cfg.busyTimeoutPolls.isSome then s.polls + k else s.polls

/-- `POLLS` after a clear sample. -/
def pollsCleared (s : State) : Nat := if s.cfg.busyTimeoutPolls.isSome then 0 else s.polls

theorem waitStep_clear {s : State} (hb : nextBusy s = false) :
    waitStep s = .advance { afterBusy s with trace := s.trace ++ [.busy false], polls := pollsCleared s } := by
  cases hc : s.cfg.busyTimeoutPolls <;> simp [waitStep, hb, hc, pollsCleared, emit]

theorem waitStep_busy {s : State} (hb : nextBusy s = true) (hn : WaitOutlasts s.cfg (s.polls + 1)) :
    waitStep s = .stay { afterBusy s with
      trace := s.trace ++ [.busy true, .delay s.cfg.pay.tPoll], polls := pollsAfter 1 s } := by
  cases hc : s.cfg.busyTimeoutPolls with
  | none => simp [waitStep, hb, hc, pollsAfter, emit]
  | some n => simp [waitStep, hb, hc, pollsAfter, emit, hn n hc]

theorem waitStep_timeout {s : State} {n : Nat} (hb : nextBusy s = true) (hc : s.cfg.busyTimeoutPolls = some n)
    (hn : n ≤ s.polls + 1) :
    waitStep s = .raised .busyTimeout { afterBusy s with trace := s.trace ++ [.busy true], polls := 0 } := by
  simp [waitStep, hb, hc, hn, emit]

/-! ### The step of an operation in flight -/

section parts
variable {i : Instr} {m : MicroOp} {s : State}

theorem InFlightAt.active (h : InFlightAt i m s) : s.active = true := h.1

theorem InFlightAt.checked (h : InFlightAt i m s) : s.issued = none := h.2.1

theorem InFlightAt.next (h : InFlightAt i m s) : (microProgram i s)[s.ustep.toNat]? = some m := h.2.2.2

theorem InFlightAt.exec_eq (h : InFlightAt i m s) : exec i s = runMicro (microProgram i s) (afterOf i) s :=
  exec_inFlight h.2.2.1 h.checked

end parts

/-- An error of the run invalidates the session (R196). -/
theorem raise_of_isRunTime {e : ErrKind} (he : e.isRunTime = true) (s : State) :
    raise e s = { s with
      err := some e, polls := 0, active := false, issued := none, phase := .uninitialized, modeValid := false,
      awValid := false, borderValid := false } := by
  simp [raise, he, invalidateSession]

/-- A micro-operation that advances, inside its program or at its end (R149). -/
theorem exec_of_advance {i : Instr} {m : MicroOp} {s s' : State} (h : InFlightAt i m s)
    (hs : microStep m s = .advance s') :
    (s.ustep.toNat + 1 < (microProgram i s).length ∧
      exec i s = .next (afterOf i s.ustep.toNat { s' with ustep := s'.ustep + 1 })) ∨
    (s.ustep.toNat + 1 = (microProgram i s).length ∧
      exec i s = .next (finish (afterOf i s.ustep.toNat { s' with ustep := s'.ustep + 1 }))) := by
  have hle : s.ustep.toNat + 1 ≤ (microProgram i s).length := (List.getElem?_eq_some_iff.1 h.next).1
  rw [h.exec_eq]
  rcases Nat.lt_or_eq_of_le hle with hlt | hlast
  · exact .inl ⟨hlt, runMicro_advance h.next hs hlt.ne⟩
  · exact .inr ⟨hlast, runMicro_complete h.next hs hlast⟩

theorem exec_of_stay {i : Instr} {m : MicroOp} {s s' : State} (h : InFlightAt i m s) (hs : microStep m s = .stay s') :
    exec i s = .next s' :=
  h.exec_eq.trans (runMicro_stay h.next hs)

theorem exec_of_raised {i : Instr} {m : MicroOp} {s s' : State} {e : ErrKind} (h : InFlightAt i m s)
    (hs : microStep m s = .raised e s') : exec i s = .next (raise e s') :=
  h.exec_eq.trans (runMicro_raised h.next hs)

/-- `RST` and `DELAY` advance, and nothing else is attached to them. -/
theorem exec_of_pulse_or_delay {i : Instr} {m : MicroOp} {s s' : State} (h : InFlightAt i m s)
    (hs : microStep m s = .advance s') (ht : m.transaction = none) (hw : m ≠ .wait) :
    exec i s = .next { s' with ustep := s'.ustep + 1 } := by
  rcases exec_of_advance h hs with ⟨hlt, hx⟩ | ⟨hlast, -⟩
  · rw [hx, (afterOf_of_noTransaction h.next ht _).2 hlt]
  · exact absurd (eq_wait_of_last_of_noTransaction h.next ht hlast) hw

/-- What a clear sample of the WAIT of state `s` comes to: `v` is `s` with the samples taken, `t` the state in which the
operation has gone on or completed. -/
structure WaitCompletes (i : Instr) (s v t : State) : Prop where
  frame  : t = { v with
    ustep := s.ustep + 1, active := t.active, err := t.err, polls := t.polls, phase := t.phase, mode := t.mode,
    modeValid := t.modeValid }
  inside : s.ustep.toNat + 1 < (microProgram i s).length →
    t.active = true ∧ t.err = s.err ∧ t.phase = s.phase ∧ t.polls = pollsCleared s
  last   : s.ustep.toNat + 1 = (microProgram i s).length → t.active = false ∧ t.err = none ∧ t.polls = 0

theorem exec_wait_clear {i : Instr} {s : State} (h : InFlightAt i .wait s) (hb : nextBusy s = false) :
    ∃ t, exec i s = .next t ∧ WaitCompletes i s { afterBusy s with trace := s.trace ++ [.busy false] } t := by
  rcases exec_of_advance h (waitStep_clear hb) with ⟨hlt, hx⟩ | ⟨hlast, hx⟩
  · rw [(afterOf_of_noTransaction h.next rfl _).2 hlt] at hx
    refine ⟨_, hx, ?_, fun _ => ⟨?_, ?_, ?_, rfl⟩, fun hlast => absurd hlast hlt.ne⟩ <;> simp [h.active]
  · refine ⟨_, hx, ?_, fun hlt => absurd hlast hlt.ne, fun _ => ⟨rfl, rfl, rfl⟩⟩
    rw [(afterOf_of_noTransaction h.next rfl _).1]
    simp [finish, h.checked]

/-! ### Samples in a row that find busy asserted -/

/-- The next step of the machine is micro-operation `m` of operation `i`. -/
structure StepsAt (i : Instr) (m : MicroOp) (s : State) : Prop where
  inFlight : InFlightAt i m s
  decoded  : current s = .op i
  noReset  : s.resetIn = false

theorem FlightInv.stepsAt {i : Instr} {m : MicroOp} {s : State} (h : FlightInv i s)
    (hm : (microProgram i s)[s.ustep.toNat]? = some m) (hr : s.resetIn = false) : StepsAt i m s :=
  ⟨⟨h.active, h.checked, h.driver, hm⟩, (current_of_checked h.checked).trans h.latched, hr⟩

theorem StepsAt.step_eq {i : Instr} {m : MicroOp} {s : State} (h : StepsAt i m s) : step s = exec i s := by
  obtain ⟨⟨ha, -⟩, hcur, hr⟩ := h
  simp [step, hr, ha, continueOp, hcur]

/-- The state after `k` samples of a WAIT in a row that found busy asserted and did not end it; `rest` is yet to be sampled. -/
def stillBusy (k : Nat) (rest : List Bool) (s : State) : State :=
  { s with busyIn := rest, trace := s.trace ++ busyEvents s.cfg k, polls := pollsAfter k s }

theorem stillBusy_stillBusy (k : Nat) (l rest : List Bool) (s : State) :
    stillBusy k rest (stillBusy 1 l s) = stillBusy (k + 1) rest s := by
  have htrace : busyEvents s.cfg 1 ++ busyEvents s.cfg k = busyEvents s.cfg (k + 1) := rfl
  have hpolls : pollsAfter k (stillBusy 1 l s) = pollsAfter (k + 1) s := by
    cases hc : s.cfg.busyTimeoutPolls <;> simp [pollsAfter, stillBusy, hc]
    omega
  simp only [stillBusy] at hpolls ⊢
  simp only [hpolls, List.append_assoc, htrace]

/-- A micro-program reads no register that the samples of a WAIT change (R150). -/
theorem microProgram_stillBusy (i : Instr) (k : Nat) (rest : List Bool) (s : State) :
    microProgram i (stillBusy k rest s) = microProgram i s :=
  microProgram_congr i rfl rfl rfl rfl

theorem stepsAt_stillBusy {i : Instr} {s : State} (h : StepsAt i .wait s) (k : Nat) (rest : List Bool) :
    StepsAt i .wait (stillBusy k rest s) := by
  obtain ⟨⟨ha, hi, hd, hm⟩, hcur, hr⟩ := h
  exact ⟨⟨ha, hi, hd, (congrArg (·[s.ustep.toNat]?) (microProgram_stillBusy i k rest s)).trans hm⟩, hcur, hr⟩

theorem step_busy {i : Instr} {s : State} (h : StepsAt i .wait s) {rest : List Bool}
    (hb : s.busyIn = true :: rest) (hn : WaitOutlasts s.cfg (s.polls + 1)) :
    step s = .next (stillBusy 1 rest s) := by
  obtain ⟨hnext, hafter⟩ := afterBusy_cons hb
  rw [h.step_eq, exec_of_stay h.inFlight (waitStep_busy hnext hn), hafter]
  rfl

/-- `k` samples in a row that do not reach the bound, if there is one. -/
theorem runFor_busy {i : Instr} {s : State} (h : StepsAt i .wait s) {k : Nat} {rest : List Bool}
    (hb : s.busyIn = List.replicate k true ++ rest) (hn : WaitOutlasts s.cfg (s.polls + k)) :
    runFor k s = .next (stillBusy k rest s) := by
  induction k generalizing s with
  | zero =>
    have hrest : rest = s.busyIn := hb.symm
    simp [stillBusy, pollsAfter, busyEvents, hrest]
  | succ k ih =>
    have hstep := step_busy h (rest := List.replicate k true ++ rest) hb fun n hc => by have := hn n hc; omega
    have hbound : WaitOutlasts s.cfg (pollsAfter 1 s + k) := fun n hc => by
      have := hn n hc
      simp only [pollsAfter, hc, Option.isSome_some, if_true]
      omega
    rw [runFor_succ hstep, ih (stepsAt_stillBusy h ..) rfl hbound, stillBusy_stillBusy]

/-- A WAIT whose bound, if there is one, outlasts `k` busy samples completes on the clear sample after them. -/
theorem runFor_busy_clear {i : Instr} {s : State} (h : StepsAt i .wait s) {k : Nat} {rest : List Bool}
    (hb : s.busyIn = List.replicate k true ++ false :: rest) (hn : WaitOutlasts s.cfg (s.polls + k)) :
    ∃ t, runFor (k + 1) s = .next t ∧
      WaitCompletes i s { s with busyIn := rest, trace := s.trace ++ busyEvents s.cfg k ++ [.busy false] } t := by
  have hlast := stepsAt_stillBusy h k (false :: rest)
  obtain ⟨hnext, hafter⟩ := afterBusy_cons (s := stillBusy k (false :: rest) s) rfl
  obtain ⟨t, hx, hframe, hinside, hend⟩ := exec_wait_clear hlast.inFlight hnext
  have hpolls : pollsCleared (stillBusy k (false :: rest) s) = pollsCleared s := by
    cases hc : s.cfg.busyTimeoutPolls <;> simp [pollsCleared, pollsAfter, stillBusy, hc]
  rw [hafter] at hframe
  rw [microProgram_stillBusy, hpolls] at hinside
  rw [microProgram_stillBusy] at hend
  refine ⟨t, ?_, hframe, hinside, hend⟩
  rw [runFor_add (runFor_busy h hb hn) 1, runFor_succ (hlast.step_eq.trans hx), runFor_zero]

/-- A WAIT whose bound the next `k + 1` samples reach, all busy. -/
theorem runFor_timeout {i : Instr} {s : State} (h : StepsAt i .wait s) {k : Nat} {rest : List Bool}
    (hb : s.busyIn = List.replicate (k + 1) true ++ rest)
    (hn : s.cfg.busyTimeoutPolls = some (s.polls + k + 1)) :
    runFor (k + 1) s = .next (raise .busyTimeout { s with
      busyIn := rest, trace := s.trace ++ busyEvents s.cfg k ++ [.busy true] }) := by
  have hb' : s.busyIn = List.replicate k true ++ true :: rest := by
    rw [hb, List.replicate_succ', List.append_assoc, List.singleton_append]
  have hbound : WaitOutlasts s.cfg (s.polls + k) := fun n hc => by
    rw [← Option.some.inj (hn.symm.trans hc)]
    exact Nat.lt_succ_self _
  have hlast := stepsAt_stillBusy h k (true :: rest)
  obtain ⟨hnext, hafter⟩ := afterBusy_cons (s := stillBusy k (true :: rest) s) rfl
  have hpolls : s.polls + k + 1 ≤ (stillBusy k (true :: rest) s).polls + 1 := by simp [stillBusy, pollsAfter, hn]
  have hstep := hlast.step_eq.trans (exec_of_raised hlast.inFlight (waitStep_timeout hnext hn hpolls))
  rw [runFor_add (runFor_busy h hb' hbound) 1, runFor_succ hstep, hafter]
  rfl

end Sys2Proof.Machine

namespace Sys2Proof
open Machine

/-! ### The obligations -/

/-- Settles O38: the two micro-operations that are transactions. -/
theorem transactionsNeverReceive : Obligations.TransactionsNeverReceive := by
  unfold Obligations.TransactionsNeverReceive
  intro i s m t _ ht
  cases m with
  | cmd b => cases ht; exact ⟨rfl, .inl ⟨b, rfl, rfl, rfl, rfl⟩⟩
  | data bs => cases ht; exact ⟨rfl, .inr ⟨bs, rfl, rfl, rfl, rfl⟩⟩
  | wait | rst | delay => cases ht

/-- Settles O35: `RST` and `DELAY` advance, inside their program (`exec_of_pulse_or_delay`). -/
theorem resetPulseAndDelayCannotFail : Obligations.ResetPulseAndDelayCannotFail := by
  unfold Obligations.ResetPulseAndDelayCannotFail
  exact fun i s => ⟨fun v h => exec_of_pulse_or_delay h rfl rfl (by simp),
    fun d h => exec_of_pulse_or_delay h rfl rfl (by simp)⟩

/-- Settles O33: without a bound a sample is `waitStep_busy` or `exec_wait_clear`. -/
theorem baselineWaitTakesOneSample : Obligations.BaselineWaitTakesOneSample := by
  unfold Obligations.BaselineWaitTakesOneSample
  intro i s h hc
  refine ⟨fun hb => ?_, fun hb => ?_⟩
  · rw [exec_of_stay h (waitStep_busy hb fun n hn => by simp [hc] at hn)]
    simp [pollsAfter, hc]
  · obtain ⟨t, hx, ht, hinside, hlast⟩ := exec_wait_clear h hb
    refine ⟨t, hx, ht, fun hlt => ?_, hlast⟩
    obtain ⟨ha, he, hp, -⟩ := hinside hlt
    exact ⟨ha, he, hp⟩

/-- Settles O32: `ok` advances with what is attached to the position (`afterOf_frame`), `fail` raises. -/
theorem transactionSucceedsOrEndsTheOperation : Obligations.TransactionSucceedsOrEndsTheOperation := by
  unfold Obligations.TransactionSucceedsOrEndsTheOperation
  intro i m ev s h hev
  have hs : microStep m s = busStep ev s := by
    rcases hev with ⟨b, rfl, rfl⟩ | ⟨bs, rfl, rfl⟩ <;> rfl
  refine ⟨fun hb => ?_, fun hb => ?_⟩
  · rcases exec_of_advance h (hs.trans (busStep_ok hb ev)) with ⟨hlt, hx⟩ | ⟨hlast, hx⟩
    · refine ⟨_, hx, ?_, fun _ => ?_, fun hlast => absurd hlast hlt.ne⟩ <;> rw [afterOf_frame] <;> simp [emit, h.active]
    · refine ⟨_, hx, ?_, fun hlt => absurd hlast hlt.ne, fun _ => ⟨rfl, rfl, rfl⟩⟩
      rw [afterOf_frame]
      simp [finish, emit, h.checked]
  · rw [exec_of_raised h (hs.trans (busStep_fail hb ev)), raise_of_isRunTime rfl]
    simp [emit, h.checked]

/-- Settles O34: the bound is reached (`runFor_timeout`), or the WAIT outlasts the busy samples (`runFor_busy_clear`). -/
theorem boundedWaitTimesOutAfterExactlyNSamples : Obligations.BoundedWaitTimesOutAfterExactlyNSamples := by
  unfold Obligations.BoundedWaitTimesOutAfterExactlyNSamples
  intro i s n hf hm hr hp hc
  have h := hf.stepsAt hm hr
  refine ⟨fun rest hb => ?_, fun k rest hk hb => ?_⟩
  · obtain _ | k := n
    · exact absurd hc s.cfg.polls_pos
    · rw [runFor_timeout h hb (by rw [hc, hp, Nat.zero_add]), raise_of_isRunTime rfl]
      simp [hf.checked, hp]
  · have hbound : WaitOutlasts s.cfg (s.polls + k) := fun n' hc' => by
      rw [hp, Nat.zero_add, ← Option.some.inj (hc.symm.trans hc')]
      exact hk
    obtain ⟨t, hrun, ht, hinside, hend⟩ := runFor_busy_clear h hb hbound
    have hdone : t.err = none ∧ t.polls = 0 := by
      rcases Nat.lt_or_eq_of_le (Nat.succ_le_of_lt hf.inRange) with hlt | hlast
      · obtain ⟨-, he, -, hpolls⟩ := hinside hlt
        exact ⟨he.trans hf.noError, by simp [hpolls, pollsCleared, hc]⟩
      · obtain ⟨-, he, hpolls⟩ := hend hlast
        exact ⟨he, hpolls⟩
    refine ⟨t, hrun, hdone.1, ?_, hdone.2, ?_, ?_⟩ <;> rw [ht]

end Sys2Proof
end

section
/-! PROOFS of the exceptions' statements (spec/60_exceptions.md R196, R199, R212): the end of an operation by its kind of error,
and the WAIT of the baseline that never ends. -/

namespace Sys2Proof.Machine

/-- An error of the checks keeps the session (R196). -/
theorem raise_of_isRunTime_false {e : ErrKind} (he : e.isRunTime = false) (s : State) :
    raise e s = { s with err := some e, polls := 0, active := false, issued := none } := by
  simp [raise, he]

/-- Without a bound no number of samples ends a WAIT. -/
theorem waitOutlasts_of_baseline {c : Config} (hc : c.busyTimeoutPolls = none) (k : Nat) : WaitOutlasts c k :=
  fun _ hn => nomatch hc.symm.trans hn

/-- In the baseline busy samples leave nothing but TRACE (R144): `POLLS` does not count. -/
theorem stillBusy_of_baseline {s : State} (hc : s.cfg.busyTimeoutPolls = none) (k : Nat) (rest : List Bool) :
    stillBusy k rest s = { s with busyIn := rest, trace := s.trace ++ busyEvents s.cfg k } := by
  simp [stillBusy, pollsAfter, hc]

end Sys2Proof.Machine

namespace Sys2Proof
open Machine

/-! ### The obligations -/

/-- Settles O49: `raise` of an error of the run, `raise` of an error of the checks, and `done`. -/
theorem howAnOperationEnds : Obligations.HowAnOperationEnds := by
  unfold Obligations.HowAnOperationEnds
  refine fun s => ⟨fun e he => ?_, fun e he => ?_, rfl⟩
  · have hrun : e.isRunTime = true := by rcases he with rfl | rfl <;> rfl
    exact raise_of_isRunTime hrun s
  · have hcheck : e.isRunTime = false := by rcases he with rfl | rfl | rfl <;> rfl
    exact raise_of_isRunTime_false hcheck s

/-- Settles O36: a WAIT without a bound outlasts every number of busy samples (`runFor_busy`). -/
theorem stuckBusyLineHangsTheBaseline : Obligations.StuckBusyLineHangsTheBaseline := by
  unfold Obligations.StuckBusyLineHangsTheBaseline
  intro i s n rest hf hm hr hc hb
  rw [runFor_busy (hf.stepsAt hm hr) hb (waitOutlasts_of_baseline hc _), stillBusy_of_baseline hc]

end Sys2Proof
end

section
/-! PROOFS of block reset's statement (spec/70_reset_and_hazards.md R220): a step that finds block reset asserted is
`blockReset`. -/

namespace Sys2Proof.Machine

/-- Block reset comes before the operation in flight and before the host. -/
theorem step_of_resetIn {s : State} (h : s.resetIn = true) : step s = .next (blockReset s) := by
  simp [step, h]

end Sys2Proof.Machine

namespace Sys2Proof
open Machine

/-! ### The obligation -/

/-- Settles O10: the step is `blockReset` (`step_of_resetIn`), and the field lemmas `blockReset_…` give the
values of R38 and the inputs kept from `s`. -/
theorem blockResetFromAnyState : Obligations.BlockResetFromAnyState := by
  unfold Obligations.BlockResetFromAnyState
  intro s h
  exact ⟨blockReset s, step_of_resetIn h, by simp⟩

end Sys2Proof
end

section
/-! PROOFS of the framebuffer unit's remaining statements (spec/40_framebuffer_ops.md R120, R124, R127, R130; E2): what an
operation of the unit answers in every state, the rectangles that cover the buffer or lie outside it, and the addresses as a
list without repeats. -/

namespace Sys2Proof.Machine

/-! ### One meaning for the three operations -/

/-- The operand checks of an operation of the unit (R122, R125). -/
def fbuValid : Instr → Bool
  | .clearRegion r => rectValid r
  | .blit base len r => rectValid r && sourceValid base len r
  | _ => true

/-- The addresses an operation of the unit writes (R121, R124, R127). -/
def fbuAddrs (c : Config) : Instr → List Nat
  | .clearAll => allAddrs c
  | .clearRegion r | .blit _ _ r => regionAddrs c r
  | _ => []

/-- The byte an operation of the unit writes at an address. -/
def fbuByte (i : Instr) (s : State) (a : Nat) : Byte :=
  match i with
  | .blit base _ r => readSrc s (blitSource s.cfg base r a)
  | _ => 0xFF#8

/-- The state an operation of the unit answers: a fill, or InvalidGeometry. -/
def fbuResult (i : Instr) (s : State) : State :=
  if fbuValid i then filled (fbuAddrs s.cfg i) (fbuByte i s) s else raise .invalidGeometry s

/-- An operation of the unit answers in every state (R120). -/
theorem exec_framebuffer {i : Instr} (hi : isDriver i = false) (s : State) : exec i s = .next (fbuResult i s) := by
  cases i with
  | clearAll => exact exec_clearAll s
  | clearRegion r =>
    cases hv : rectValid r with
    | true => rw [exec_clearRegion_of_valid hv, fbuResult, if_pos (show fbuValid (.clearRegion r) = true from hv)]; rfl
    | false => simp [exec_clearRegion_of_invalid hv, fbuResult, fbuValid, hv]
  | blit base len r =>
    by_cases hc : rectValid r = true ∧ sourceValid base len r = true
    · rw [exec_blit_of_valid hc.1 hc.2, fbuResult, if_pos (show fbuValid (.blit base len r) = true by simp [fbuValid, hc])]
      rfl
    · simp [exec_blit_of_invalid hc, fbuResult, fbuValid, hc]
  | init | setAddressWindow | enableMode | transfer | refresh | setBorder | clearDisplay => cases hi

/-- The unit changes `FB_MEM` and `STATUS` only, `POLLS` being 0 after every operation (R120). -/
theorem fbuResult_frame (i : Instr) (s : State) : fbuResult i s = { s with
    fbMem := (fbuResult i s).fbMem, err := (fbuResult i s).err, active := false, polls := 0, issued := none } := by
  unfold fbuResult
  split <;> rfl

/-- It ends well or in InvalidGeometry, by its operands alone. -/
theorem fbuResult_err (i : Instr) (s : State) :
    (fbuResult i s).err = if fbuValid i then none else some .invalidGeometry := by
  unfold fbuResult
  split <;> rfl

/-- An operation that fails its checks leaves `FB_MEM` (R132). -/
theorem fbuResult_fbMem_of_err {i : Instr} {s : State} (h : (fbuResult i s).err ≠ none) :
    (fbuResult i s).fbMem = s.fbMem := by
  unfold fbuResult at h ⊢
  split at h
  · exact absurd rfl h
  · rw [if_neg ‹_›, raise_fbMem]

/-- The bytes written depend on the configuration and the source memory only. -/
theorem fbuByte_congr (i : Instr) {s s' : State} (hc : s'.cfg = s.cfg) (hs : s'.src = s.src) :
    fbuByte i s' = fbuByte i s := by
  funext a
  cases i <;> simp [fbuByte, readSrc, hc, hs]

/-- The memory an operation leaves depends on the configuration, `FB_MEM` and the source memory only (R120). -/
theorem fbuResult_fbMem_congr (i : Instr) {s s' : State} (hc : s'.cfg = s.cfg) (hf : s'.fbMem = s.fbMem)
    (hs : s'.src = s.src) : (fbuResult i s').fbMem = (fbuResult i s).fbMem := by
  unfold fbuResult
  split
  · simp only [filled, finish_fbMem, hc, hf, fbuByte_congr i hc hs]
  · simp only [raise_fbMem, hf]

/-! ### Rectangles that cover the buffer, and rectangles outside it -/

/-- Rows of bytes one after the other are the addresses in order. -/
theorem grid_map_addr (rows cols : Nat) :
    (grid rows cols).map (fun p => p.1 * cols + p.2) = List.range (rows * cols) := by
  induction rows with
  | zero => simp [grid]
  | succ rows ih =>
    have hgrid : grid (rows + 1) cols = grid rows cols ++ (List.range cols).map fun k => (rows, k) := by
      simp [grid, List.range_succ]
    rw [hgrid, List.map_append, ih, List.map_map, Nat.add_one_mul, List.range_add]
    rfl

/-- R124's corner case at the level of addresses. -/
theorem regionAddrs_of_covers {c : Config} {r : Rect} (hl : r.left ≤ 0) (ht : r.top ≤ 0)
    (hr : (c.fbW : Int) ≤ r.left + r.width) (hb : (c.fbH : Int) ≤ r.top + r.height) :
    regionAddrs c r = allAddrs c := by
  have hs := fbStride_mul c
  have hl0 : max r.left 0 = 0 := by omega
  have ht0 : max r.top 0 = 0 := by omega
  have hr0 : min (r.left + r.width) (c.fbW : Int) = c.fbW := by omega
  have hb0 : min (r.top + r.height) (c.fbH : Int) = c.fbH := by omega
  simp only [regionAddrs, allAddrs, Config.fbSize, hl0, ht0, hr0, hb0]
  split
  case isTrue hempty =>
    have hsize : c.fbH * c.fbStride = 0 := Nat.mul_eq_zero.mpr (by omega)
    rw [hsize, List.range_zero]
  case isFalse =>
    have hcols : ((c.fbW : Int) / 8 - 0 / 8).toNat = c.fbStride := by omega
    have hrows : ((c.fbH : Int) - 0).toNat = c.fbH := by omega
    rw [hcols, hrows, ← grid_map_addr]
    exact List.map_congr_left fun p _ => by simp

/-- The six ways for a rectangle to have no byte inside the buffer. -/
def MissesBuffer (c : Config) (r : Rect) : Prop :=
  (c.fbW : Int) ≤ r.left ∨ (c.fbH : Int) ≤ r.top ∨ r.left + r.width ≤ 0 ∨ r.top + r.height ≤ 0 ∨
    r.width = 0 ∨ r.height = 0

theorem regionAddrs_of_misses {c : Config} {r : Rect} (h : MissesBuffer c r) : regionAddrs c r = [] := by
  unfold MissesBuffer at h
  exact if_pos (by omega)

/-- A fill of no address. -/
theorem filled_nil (value : Nat → Byte) (s : State) :
    filled [] value s = { s with err := none, active := false, polls := 0, issued := none } := rfl

/-! ### Each address once (R130) -/

theorem grid_nodup (rows cols : Nat) : (grid rows cols).Nodup :=
  List.nodup_range.product List.nodup_range

theorem regionAddrs_nodup (c : Config) (r : Rect) : (regionAddrs c r).Nodup := by
  have hs := fbStride_mul c
  simp only [regionAddrs]
  split
  · exact List.nodup_nil
  · refine (grid_nodup _ _).map_on fun p hp p' hp' heq => ?_
    have hk : (max r.left 0 / 8).toNat + p.2 < c.fbStride := by have := (mem_grid.mp hp).2; omega
    have hk' : (max r.left 0 / 8).toNat + p'.2 < c.fbStride := by have := (mem_grid.mp hp').2; omega
    have hrow := congrArg (· / c.fbStride) heq
    have hcol := congrArg (· % c.fbStride) heq
    simp only [addr_div hk, addr_div hk', addr_mod hk, addr_mod hk'] at hrow hcol
    exact Prod.ext (by omega) (by omega)

/-- The bytes of a function stored at the addresses of a list, in any order. -/
theorem Memory.writeAll_map_of_perm (as : List Nat) (value : Nat → Byte) {ws : List (Nat × Byte)} {m : Memory}
    (hw : m.wf) (hp : ws.Perm (as.map fun a => (a, value a))) :
    m.writeAll ws = m.writeAll (as.map fun a => (a, value a)) := by
  have hws : ws = (ws.map Prod.fst).map fun a => (a, value a) := by
    rw [List.map_map]
    refine (List.map_id ws).symm.trans (List.map_congr_left fun w hw => ?_)
    obtain ⟨a, -, rfl⟩ := List.mem_map.mp (hp.subset hw)
    rfl
  have has : ∀ a, a ∈ ws.map Prod.fst ↔ a ∈ as := fun a => by
    have hfst := (hp.map Prod.fst).mem_iff (a := a)
    simpa using hfst
  rw [hws]
  refine Memory.ext (Memory.wf_writeAll _ hw) (Memory.wf_writeAll _ hw) fun a => ?_
  simp only [Memory.lookup_writeAll_map, has]

/-! ### Pixels (R61, R64) -/

/-- A pixel of the framebuffer lies in a valid rectangle exactly when its byte does, since the rectangle's edges are multiples of
8 pixels. -/
theorem insideRect_pixelAddr {c : Config} {r : Rect} {x y : Nat} (hv : rectValid r = true) (hx : x < c.fbW)
    (hy : y < c.fbH) : insideRect c r (pixelAddr c x y) ↔
      r.left ≤ x ∧ (x : Int) < r.left + r.width ∧ r.top ≤ y ∧ (y : Int) < r.top + r.height := by
  obtain ⟨-, -, hl, hwm⟩ := (rectValid_iff r).mp hv
  have hs := fbStride_mul c
  have hk : x / 8 < c.fbStride := by omega
  have hlt : pixelAddr c x y < c.fbSize := addr_lt hy hk
  simp only [insideRect, hlt, true_and]
  rw [pixelAddr, addr_div hk, addr_mod hk]
  omega

/-- A byte 0xFF holds eight white pixels. -/
theorem getLsbD_white (x : Nat) : (0xFF#8).getLsbD (pixelBit x) = true := by
  have hbit : ∀ b < 8, (0xFF#8).getLsbD b = true := by decide
  exact hbit _ (by unfold pixelBit; omega)

end Sys2Proof.Machine

namespace Sys2Proof
open Machine

/-! ### The obligations -/

/-- Settles O16: the answer is `fbuResult`, whose frame and whose dependence are lemmas. -/
theorem framebufferUnitTouchesOnlyTheFramebuffer : Obligations.FramebufferUnitTouchesOnlyTheFramebuffer := by
  unfold Obligations.FramebufferUnitTouchesOnlyTheFramebuffer
  intro i s hi
  refine ⟨fbuResult i s, exec_framebuffer hi s, fbuResult_frame i s, ?_, fun s' t' hc hf hs h => ?_⟩
  · rw [fbuResult_err]
    split
    · exact .inl rfl
    · exact .inr rfl
  · rw [exec_framebuffer hi] at h
    cases h
    exact ⟨fbuResult_fbMem_congr i hc hf hs, by rw [fbuResult_err, fbuResult_err]⟩

/-- Settles O19: the pixel's byte is filled exactly when the pixel is inside (`insideRect_pixelAddr`). -/
theorem clearRegionWhitensExactlyThePixels : Obligations.ClearRegionWhitensExactlyThePixels := by
  unfold Obligations.ClearRegionWhitensExactlyThePixels
  refine fun s r hv => ⟨_, exec_clearRegion_of_valid hv s, fun x y hx hy => ?_⟩
  have hmem := (mem_regionAddrs hv).trans (insideRect_pixelAddr hv hx hy)
  have hread := readFb_filled (regionAddrs s.cfg r) (fun _ => 0xFF#8) s (pixelAddr s.cfg x y)
  refine ⟨fun hin => ?_, fun hout => ?_⟩
  · rw [if_pos (hmem.mpr hin)] at hread
    exact (congrArg (BitVec.getLsbD · (pixelBit x)) hread).trans (getLsbD_white x)
  · rw [if_neg (mt hmem.mp hout)] at hread
    exact congrArg (BitVec.getLsbD · (pixelBit x)) hread

/-- Settles O20: the two operations write the same list of addresses (`regionAddrs_of_covers`). -/
theorem coveringRectangleEqualsClearAll : Obligations.CoveringRectangleEqualsClearAll := by
  unfold Obligations.CoveringRectangleEqualsClearAll
  intro s r hv hl ht hr hb
  rw [exec_clearRegion_of_valid hv, exec_clearAll, regionAddrs_of_covers hl ht hr hb]

/-- Settles O21: no address is written (`regionAddrs_of_misses`). -/
theorem outsideRectangleIsNoOp : Obligations.OutsideRectangleIsNoOp := by
  unfold Obligations.OutsideRectangleIsNoOp
  intro s r hv hmiss
  have hnone := regionAddrs_of_misses hmiss
  refine ⟨?_, fun base len hsrc => ?_⟩
  · rw [exec_clearRegion_of_valid hv, hnone, filled_nil]
  · rw [exec_blit_of_valid hv hsrc, hnone, filled_nil]

/-- Settles O27: each of the three lists is a function on addresses without repeats. -/
theorem eachFramebufferAddressIsWrittenOnce : Obligations.EachFramebufferAddressIsWrittenOnce := by
  unfold Obligations.EachFramebufferAddressIsWrittenOnce
  intro c r base value m hv hw ws hws
  have once {as : List Nat} (f : Nat → Byte) (has : as.Nodup) : ((as.map fun a => (a, f a)).map Prod.fst).Nodup ∧
      ∀ ws' : List (Nat × Byte), ws'.Perm (as.map fun a => (a, f a)) →
        m.writeAll ws' = m.writeAll (as.map fun a => (a, f a)) :=
    ⟨by simpa [Function.comp_def] using has, fun ws' hp => Memory.writeAll_map_of_perm as f hw hp⟩
  rcases hws with rfl | rfl | rfl
  · exact once _ List.nodup_range
  · exact once _ (regionAddrs_nodup c r)
  · have hmoves : (blitMoves c base r).map (fun p => (p.1, value p.2)) =
        (regionAddrs c r).map fun a => (a, value (blitSource c base r a)) := by
      rw [blitMoves_eq_map_regionAddrs c base hv, List.map_map]
      rfl
    rw [hmoves]
    exact once _ (regionAddrs_nodup c r)

end Sys2Proof
end

section
/-! PROOFS of the invariant's statements (spec/10_state.md R24, R28, R31; spec/42_driver_ops.md R169; spec/60_exceptions.md R209):
the invariant in three parts (memories, session, what is in flight), and each part kept by accept, by the checks, by a
micro-operation that advances, stays or raises, and by an operation of the framebuffer unit. -/

namespace Sys2Proof.Machine

/-! ### The parts of the invariant -/

/-- The clauses of `Inv` about the two memories. -/
structure MemoriesInv (s : State) : Prop where
  fbWf     : s.fbMem.wf
  fbBound  : ∀ c ∈ s.fbMem, c.1 < s.cfg.fbSize
  srcWf    : s.src.wf
  srcBound : ∀ c ∈ s.src, c.1 < 2 ^ 32

/-- The clauses of `Inv` about the session's registers. -/
structure SessionInv (s : State) : Prop where
  modePhase : (s.phase = .modeEnabled ∨ s.phase = .refreshing) ↔ s.modeValid = true
  window    : s.awValid = true → s.awXStart.toNat ≤ 2047 ∧ s.awXEnd.toNat ≤ 2047

theorem Inv.memories {s : State} (h : Inv s) : MemoriesInv s := ⟨h.fbWf, h.fbBound, h.srcWf, h.srcBound⟩

theorem Inv.session {s : State} (h : Inv s) : SessionInv s := ⟨h.modePhase, h.window⟩

section build
variable {s : State} (hm : MemoriesInv s) (hs : SessionInv s)
include hm hs

/-- The invariant of an idle block. -/
theorem Inv.of_idle (ha : s.active = false) (hi : s.issued = none) (hq : QuietInv s) : Inv s where
  fbWf := hm.fbWf
  fbBound := hm.fbBound
  srcWf := hm.srcWf
  srcBound := hm.srcBound
  modePhase := hs.modePhase
  window := hs.window
  idle _ := ⟨hi, hq⟩
  accepted _ ha' := absurd (ha.symm.trans ha') Bool.false_ne_true
  flight ha' := absurd (ha.symm.trans ha') Bool.false_ne_true

/-- The invariant right after an accept. -/
theorem Inv.of_accepted {d : Descriptor} (hd : accept d s = s) (hq : QuietInv s) : Inv s where
  fbWf := hm.fbWf
  fbBound := hm.fbBound
  srcWf := hm.srcWf
  srcBound := hm.srcBound
  modePhase := hs.modePhase
  window := hs.window
  idle ha := by rw [← hd, accept_active] at ha; cases ha
  accepted d' _ hi := by
    rw [← hd, accept_issued] at hi
    cases hi
    exact ⟨hd, hq⟩
  flight _ hi := by rw [← hd, accept_issued] at hi; cases hi

/-- The invariant of a block whose operation in flight has passed its checks. -/
theorem Inv.of_flight {i : Instr} (hf : FlightInv i s) : Inv s where
  fbWf := hm.fbWf
  fbBound := hm.fbBound
  srcWf := hm.srcWf
  srcBound := hm.srcBound
  modePhase := hs.modePhase
  window := hs.window
  idle ha := absurd (ha.symm.trans hf.active) Bool.false_ne_true
  accepted _ _ hi := nomatch hf.checked.symm.trans hi
  flight _ _ := ⟨i, hf⟩

end build

/-- The memories' part speaks of three fields. -/
theorem MemoriesInv.congr {s t : State} (h : MemoriesInv s) (hf : t.fbMem = s.fbMem) (hs : t.src = s.src)
    (hc : t.cfg = s.cfg) : MemoriesInv t :=
  ⟨hf ▸ h.fbWf, by rw [hf, hc]; exact h.fbBound, hs ▸ h.srcWf, hs ▸ h.srcBound⟩

/-- The session's part speaks of five. -/
theorem SessionInv.congr {s t : State} (h : SessionInv s) (hp : t.phase = s.phase) (hv : t.modeValid = s.modeValid)
    (hw : t.awValid = s.awValid) (hx0 : t.awXStart = s.awXStart) (hx1 : t.awXEnd = s.awXEnd) : SessionInv t :=
  ⟨by rw [hp, hv]; exact h.modePhase, by rw [hw, hx0, hx1]; exact h.window⟩

/-- An invalidated session (R196). -/
theorem SessionInv.of_uninitialized {s : State} (hp : s.phase = .uninitialized) (hv : s.modeValid = false)
    (hw : s.awValid = false) : SessionInv s :=
  ⟨by simp [hp, hv], by simp [hw]⟩

/-! ### What is attached to a position -/

/-- The phase after position `k` of an operation, from the phase before (R37). -/
def phaseAfter (i : Instr) (k : Nat) (p : Phase) : Phase :=
  match i with
  | .init => if k = 23 then .initialized else p
  | .enableMode _ => if k = 5 then .modeEnabled else p
  | .refresh => if k = 3 then .modeEnabled else p
  | .clearDisplay => if k = 9 then .refreshing else if k = 13 then .modeEnabled else p
  | _ => p

/-- `MODE_VALID` after position `k` of an operation (R37). -/
def modeValidAfter (i : Instr) (k : Nat) (v : Bool) : Bool :=
  match i with
  | .init => if k = 23 then false else v
  | .enableMode _ => if k = 5 then true else v
  | _ => v

/-- `MODE` after position `k` of an operation: only ENABLE_MODE writes it (R37). -/
def modeAfter (i : Instr) (k : Nat) (m : Mode) : Mode :=
  match i with
  | .enableMode m' => if k = 5 then m' else m
  | _ => m

/-- The window position `k` of an operation sets, if any: `(XS, XE, YS, YE)` (R148). -/
def windowAfter (i : Instr) (k : Nat) (c : Config) : Option (Nat × Nat × Nat × Nat) :=
  match i with
  | .init => if k = 19 then some (0, c.panelW - 1, 0, c.panelH - 1) else none
  | .setAddressWindow xs xe ys ye => if k = 7 then some (xs.toNat, xe.toNat, ys.toNat, ye.toNat) else none
  | .transfer => if k = 7 then some (0, c.fbW - 1, 0, c.fbH - 1) else none
  | .clearDisplay => if k = 7 then some (0, c.panelW - 1, 0, c.panelH - 1) else none
  | _ => none

/-- The border colour position `k` of an operation sets, if any (R161, R167). -/
def borderAfter (i : Instr) (k : Nat) (c : Config) : Option Bool :=
  match i with
  | .init => if k = 21 then some c.pay.initBorderWhite else none
  | .setBorder w => if k = 1 then some w else none
  | _ => none

/-- The state with a window set, if one is given. -/
def setWindow? (w : Option (Nat × Nat × Nat × Nat)) (s : State) : State :=
  w.elim s fun (xs, xe, ys, ye) => setWindow xs xe ys ye s

/-- The state with a border colour set, if one is given. -/
def setBorder? (w : Option Bool) (s : State) : State := w.elim s (setBorderReg · s)

theorem setBorder?_frame (w : Option Bool) (s : State) : setBorder? w s = { s with
    borderWhite := (setBorder? w s).borderWhite, borderValid := (setBorder? w s).borderValid } := by
  cases w <;> rfl

/-- Everything that is attached to a position: a window, a border colour, the registers of the phase table. -/
theorem afterOf_eq (i : Instr) (k : Nat) (s : State) :
    afterOf i k s = { setBorder? (borderAfter i k s.cfg) (setWindow? (windowAfter i k s.cfg) s) with
      phase := phaseAfter i k s.phase, mode := modeAfter i k s.mode, modeValid := modeValidAfter i k s.modeValid } := by
  cases i with
  | clearAll | clearRegion | blit => rfl
  | init =>
    simp only [afterOf, initAfter]
    split
    · rfl
    · rfl
    · rfl
    next h19 h21 h23 =>
      simp only [borderAfter, windowAfter, phaseAfter, modeAfter, modeValidAfter, if_neg h19, if_neg h21, if_neg h23]
      rfl
  | setAddressWindow =>
    simp only [afterOf, setAddressWindowAfter]
    split
    · rfl
    next h7 =>
      simp only [borderAfter, windowAfter, phaseAfter, modeAfter, modeValidAfter, if_neg h7]
      rfl
  | enableMode =>
    simp only [afterOf, enableModeAfter]
    split
    · rfl
    next h5 =>
      simp only [borderAfter, windowAfter, phaseAfter, modeAfter, modeValidAfter, if_neg h5]
      rfl
  | transfer =>
    simp only [afterOf, transferAfter]
    split
    · rfl
    next h7 =>
      simp only [borderAfter, windowAfter, phaseAfter, modeAfter, modeValidAfter, if_neg h7]
      rfl
  | refresh =>
    simp only [afterOf, refreshAfter]
    split
    · rfl
    next h3 =>
      simp only [borderAfter, windowAfter, phaseAfter, modeAfter, modeValidAfter, if_neg h3]
      rfl
  | setBorder =>
    simp only [afterOf, setBorderAfter]
    split
    · rfl
    next h1 =>
      simp only [borderAfter, windowAfter, phaseAfter, modeAfter, modeValidAfter, if_neg h1]
      rfl
  | clearDisplay =>
    simp only [afterOf, clearDisplayAfter]
    split
    · rfl
    · rfl
    · rfl
    next h7 h9 h13 =>
      simp only [borderAfter, windowAfter, phaseAfter, modeAfter, modeValidAfter, if_neg h7, if_neg h9, if_neg h13]
      rfl

section attached
variable (i : Instr) (k : Nat) (s : State)

@[simp] theorem afterOf_cfg : (afterOf i k s).cfg = s.cfg := by rw [afterOf_frame]
@[simp] theorem afterOf_ustep : (afterOf i k s).ustep = s.ustep := by rw [afterOf_frame]
@[simp] theorem afterOf_active : (afterOf i k s).active = s.active := by rw [afterOf_frame]
@[simp] theorem afterOf_err : (afterOf i k s).err = s.err := by rw [afterOf_frame]
@[simp] theorem afterOf_polls : (afterOf i k s).polls = s.polls := by rw [afterOf_frame]
@[simp] theorem afterOf_issued : (afterOf i k s).issued = s.issued := by rw [afterOf_frame]
@[simp] theorem afterOf_resetOut : (afterOf i k s).resetOut = s.resetOut := by rw [afterOf_frame]
@[simp] theorem afterOf_resetIn : (afterOf i k s).resetIn = s.resetIn := by rw [afterOf_frame]
@[simp] theorem afterOf_trace : (afterOf i k s).trace = s.trace := by rw [afterOf_frame]
@[simp] theorem afterOf_operandDescriptor : operandDescriptor (afterOf i k s) = operandDescriptor s := by
  rw [afterOf_frame]; rfl

@[simp] theorem afterOf_phase : (afterOf i k s).phase = phaseAfter i k s.phase := by rw [afterOf_eq]
@[simp] theorem afterOf_mode : (afterOf i k s).mode = modeAfter i k s.mode := by rw [afterOf_eq]
@[simp] theorem afterOf_modeValid : (afterOf i k s).modeValid = modeValidAfter i k s.modeValid := by rw [afterOf_eq]

end attached

/-- A window that is set lies within the X range of the controller (R28), the operation's geometry check having passed. -/
theorem windowAfter_le {i : Instr} {k : Nat} {c : Config} {w : Nat × Nat × Nat × Nat} (h : windowAfter i k c = some w)
    (hg : geometryOf i c = true) : w.1 ≤ 2047 ∧ w.2.1 ≤ 2047 := by
  have hfb := c.fbW_le
  have hpanel := c.panelW_le
  cases i with
  | clearAll | clearRegion | blit | enableMode | refresh | setBorder => cases h
  | init | transfer | clearDisplay =>
    obtain ⟨-, ⟨⟩⟩ := Option.ite_none_right_eq_some.mp h
    dsimp only
    omega
  | setAddressWindow =>
    obtain ⟨-, ⟨⟩⟩ := Option.ite_none_right_eq_some.mp h
    simp only [geometryOf, windowValid, Bool.and_eq_true, decide_eq_true_eq] at hg
    dsimp only
    omega

/-- The phase of an operation in flight, from one position to the next. -/
theorem flightPhase_phaseAfter {i : Instr} {k : Nat} {p : Phase} {s : State} (hp : flightPhase i k p)
    (hk : k + 1 < (microProgram i s).length) : flightPhase i (k + 1) (phaseAfter i k p) := by
  cases i with
  | clearAll | clearRegion | blit => exact hp
  | setAddressWindow | transfer | setBorder => exact hp
  | init | enableMode | refresh =>
    simp only [microProgram_length] at hk
    simp only [phaseAfter, if_neg (Nat.ne_of_lt (Nat.lt_of_succ_lt_succ hk))]
    exact hp
  | clearDisplay =>
    simp only [microProgram_length] at hk
    simp only [flightPhase, phaseAfter] at hp ⊢
    rcases Nat.lt_trichotomy k 9 with h | rfl | h
    · simp [hp, h.le, h.ne, show k ≠ 13 by omega, show k + 1 ≤ 9 by omega]
    · rfl
    · simp [hp, h.ne', show k ≠ 13 by omega, show ¬ k ≤ 9 by omega, show ¬ k + 1 ≤ 9 by omega]

/-- A completed operation leaves neither Resetting nor Refreshing (R169). -/
theorem phaseAfter_of_last {i : Instr} {k : Nat} {p : Phase} {s : State} (hp : flightPhase i k p)
    (hk : k + 1 = (microProgram i s).length) : phaseAfter i k p ≠ .resetting ∧ phaseAfter i k p ≠ .refreshing := by
  cases i with
  | clearAll | clearRegion | blit => exact hp.elim
  | setAddressWindow | transfer | setBorder => constructor <;> rintro rfl <;> cases hp
  | init | enableMode | refresh | clearDisplay => cases hk; exact ⟨nofun, nofun⟩

/-- What is attached to a position keeps the session's part of the invariant. -/
theorem SessionInv.afterOf {i : Instr} {k : Nat} {s : State} (h : SessionInv s) (hp : flightPhase i k s.phase)
    (hg : geometryOf i s.cfg = true) : SessionInv (afterOf i k s) where
  modePhase := by
    have hmode := h.modePhase
    rw [afterOf_phase, afterOf_modeValid]
    cases i with
    | clearAll | clearRegion | blit => exact hmode
    | setAddressWindow | transfer | setBorder => exact hmode
    | init | enableMode =>
      simp only [phaseAfter, modeValidAfter]
      split
      · simp
      · exact hmode
    | refresh =>
      have hvalid := hmode.mp (.inr hp)
      simp only [phaseAfter, modeValidAfter]
      split
      · simp [hvalid]
      · exact hmode
    | clearDisplay =>
      have hvalid : s.modeValid = true := hmode.mp (by simp only [flightPhase] at hp; split at hp <;> simp [hp])
      simp only [phaseAfter, modeValidAfter]
      split
      · simp [hvalid]
      · split
        · simp [hvalid]
        · exact hmode
  window := by
    rw [afterOf_eq, setBorder?_frame]
    cases hw : windowAfter i k s.cfg with
    | none => exact h.window
    | some w =>
      obtain ⟨hxs, hxe⟩ := windowAfter_le hw hg
      intro _
      show (BitVec.ofNat 16 w.1).toNat ≤ 2047 ∧ (BitVec.ofNat 16 w.2.1).toNat ≤ 2047
      simp only [BitVec.toNat_ofNat]
      omega

/-! ### One micro-operation -/

/-- Everything a sample of a WAIT can come to (R144, R145). -/
theorem waitStep_cases (s : State) :
    (nextBusy s = false ∧
      waitStep s = .advance { afterBusy s with trace := s.trace ++ [.busy false], polls := pollsCleared s }) ∨
    (nextBusy s = true ∧ WaitOutlasts s.cfg (s.polls + 1) ∧ waitStep s = .stay { afterBusy s with
      trace := s.trace ++ [.busy true, .delay s.cfg.pay.tPoll], polls := pollsAfter 1 s }) ∨
    (nextBusy s = true ∧ (∃ n, s.cfg.busyTimeoutPolls = some n ∧ n ≤ s.polls + 1) ∧
      waitStep s = .raised .busyTimeout { afterBusy s with trace := s.trace ++ [.busy true], polls := 0 }) := by
  cases hb : nextBusy s with
  | false => exact .inl ⟨rfl, waitStep_clear hb⟩
  | true =>
    by_cases hn : WaitOutlasts s.cfg (s.polls + 1)
    · exact .inr (.inl ⟨rfl, hn, waitStep_busy hb hn⟩)
    · simp only [WaitOutlasts, not_forall, Nat.not_lt] at hn
      obtain ⟨n, hc, hle⟩ := hn
      exact .inr (.inr ⟨rfl, ⟨n, hc, hle⟩, waitStep_timeout hb hc hle⟩)

/-- A transaction's step and the two others that are no WAIT leave `POLLS`. -/
theorem microStep_polls_of_ne_wait {m : MicroOp} (hw : m ≠ .wait) (s : State) :
    (microStep m s).state.polls = s.polls := by
  have bus (ev : BusResult → Event) : (busStep ev s).state.polls = s.polls := by
    unfold busStep
    split <;> simp [MicroOutcome.state]
  cases m with
  | cmd b => exact bus _
  | data bs => exact bus _
  | wait => exact absurd rfl hw
  | rst v => rfl
  | delay d => rfl

/-- Only a WAIT stays. -/
theorem eq_wait_of_stay {m : MicroOp} {s s' : State} (h : microStep m s = .stay s') : m = .wait := by
  have bus (ev : BusResult → Event) : busStep ev s ≠ .stay s' := by
    unfold busStep
    split <;> nofun
  cases m with
  | cmd b => exact absurd h (bus _)
  | data bs => exact absurd h (bus _)
  | wait => rfl
  | rst v => cases h
  | delay d => cases h

/-- The level an `RST` drives. -/
def MicroOp.pulse : MicroOp → Option Bool
  | .rst v => some v
  | .cmd _ | .data _ | .wait | .delay _ => none

/-- Only `RST` drives the reset output (R146). -/
theorem microStep_resetOut (m : MicroOp) (s : State) :
    (microStep m s).state.resetOut = m.pulse.getD s.resetOut := by
  have bus (ev : BusResult → Event) : (busStep ev s).state.resetOut = s.resetOut := by
    unfold busStep
    split <;> simp [MicroOutcome.state]
  cases m with
  | cmd b => exact bus _
  | data bs => exact bus _
  | wait =>
    have hw : microStep .wait s = waitStep s := rfl
    rcases waitStep_cases s with ⟨-, h⟩ | ⟨-, -, h⟩ | ⟨-, -, h⟩ <;>
      simp [hw, h, MicroOutcome.state, MicroOp.pulse]
  | rst v => rfl
  | delay d => rfl

/-- The pulses of the micro-programs: INITIALIZE asserts at position 0 and releases at position 3 (R161). -/
theorem microProgram_pulses (i : Instr) (s : State) : (microProgram i s).map MicroOp.pulse =
    if i = .init then [some true, none, none, some false] ++ List.replicate 20 none
    else List.replicate (microProgram i s).length none := by
  cases i <;> rfl

theorem pulse_of_getElem? {i : Instr} {s : State} {k : Nat} {m : MicroOp} (hm : (microProgram i s)[k]? = some m) :
    m.pulse = if i = .init ∧ k = 0 then some true else if i = .init ∧ k = 3 then some false else none := by
  have hp : ((microProgram i s).map MicroOp.pulse)[k]? = some m.pulse := by rw [List.getElem?_map, hm]; rfl
  have hk : k < (microProgram i s).length := (List.getElem?_eq_some_iff.mp hm).1
  rw [microProgram_pulses] at hp
  by_cases hi : i = .init
  · subst hi
    have table : ∀ k < 24, ([some true, none, none, some false] ++ List.replicate 20 none)[k]? =
        some (if k = 0 then some true else if k = 3 then some false else none) := by decide
    rw [if_pos rfl, table k hk] at hp
    simpa using (Option.some.inj hp).symm
  · rw [if_neg hi, List.getElem?_replicate, if_pos hk] at hp
    simpa [hi] using (Option.some.inj hp).symm

/-- Between the two pulses INITIALIZE only lets time pass (R161). -/
theorem microProgram_init_settle (s : State) {k : Nat} (hk : k = 1 ∨ k = 2) :
    (microProgram .init s)[k]? = some (.delay s.cfg.pay.tSettle) := by
  rcases hk with rfl | rfl <;> rfl

/-! ### The operation in flight -/

section flight
variable {i : Instr} {m : MicroOp} {s s' : State}

theorem FlightInv.polls_eq_zero_of_ne_wait (h : FlightInv i s) (hm : (microProgram i s)[s.ustep.toNat]? = some m)
    (hw : m ≠ .wait) : s.polls = 0 :=
  Classical.byContradiction fun hne => hw (Option.some.inj (hm.symm.trans (h.polls hne).1))

/-- A micro-operation that advances leaves `POLLS` 0 (R31, R145). -/
theorem FlightInv.polls_of_advance (h : FlightInv i s) (hm : (microProgram i s)[s.ustep.toNat]? = some m)
    (hs : microStep m s = .advance s') : s'.polls = 0 := by
  by_cases hw : m = .wait
  · subst hw
    have hwait : waitStep s = .advance s' := hs
    rcases waitStep_cases s with ⟨-, he⟩ | ⟨-, -, he⟩ | ⟨-, -, he⟩ <;> rw [he] at hwait <;> cases hwait
    show pollsCleared s = 0
    unfold pollsCleared
    split
    · rfl
    · by_contra hne
      obtain ⟨-, n, hn, -⟩ := h.polls hne
      simp [hn] at *
  · have hpolls := microStep_polls_of_ne_wait hw s
    rw [hs] at hpolls
    exact hpolls.trans (h.polls_eq_zero_of_ne_wait hm hw)

/-- While the reset output is asserted no micro-operation raises. -/
theorem FlightInv.resetOut_of_raised {e : ErrKind} (h : FlightInv i s)
    (hm : (microProgram i s)[s.ustep.toNat]? = some m) (hs : microStep m s = .raised e s') : s.resetOut = false := by
  by_contra hne
  obtain ⟨rfl, hlo, hhi⟩ := h.resetOut.mp (by simpa using hne)
  have hp := pulse_of_getElem? hm
  by_cases h3 : s.ustep.toNat = 3
  · cases m <;> simp [h3, MicroOp.pulse] at hp
    cases hs
  · rw [microProgram_init_settle s (by omega)] at hm
    cases hm
    cases hs

/-- `USTEP` never exceeds 24 (R24). -/
theorem microProgram_length_le (i : Instr) (s : State) : (microProgram i s).length ≤ 24 := by
  rw [microProgram_length]
  cases i <;> simp

theorem ustep_succ (h : s.ustep.toNat < (microProgram i s).length) : (s.ustep + 1).toNat = s.ustep.toNat + 1 := by
  have hle := microProgram_length_le i s
  have h1 : s.ustep.toNat + 1 < 256 := by omega
  simp [BitVec.toNat_add, Nat.mod_eq_of_lt h1]

/-- A micro-operation that advances inside its program. -/
theorem FlightInv.advance (h : FlightInv i s) (hm : (microProgram i s)[s.ustep.toNat]? = some m)
    (hs : microStep m s = .advance s') (hk : s.ustep.toNat + 1 < (microProgram i s).length) :
    FlightInv i (afterOf i s.ustep.toNat { s' with ustep := s'.ustep + 1 }) := by
  have hf := (microStep_frame m s).eq
  have hreset := microStep_resetOut m s
  have hpolls := h.polls_of_advance hm hs
  simp only [hs, MicroOutcome.state] at hf hreset
  have hustep : (s'.ustep + 1).toNat = s.ustep.toNat + 1 := by rw [hf]; exact ustep_succ h.inRange
  have hlen : ∀ t : State, (microProgram i t).length = (microProgram i s).length := fun t => by
    rw [microProgram_length, microProgram_length]
  rw [pulse_of_getElem? hm] at hreset
  constructor
  case active => rw [afterOf_active, hf]; exact h.active
  case checked => rw [afterOf_issued, hf]; exact h.checked
  case latched => rw [afterOf_operandDescriptor, hf]; exact h.latched
  case driver => exact h.driver
  case inRange => rw [hlen, afterOf_ustep, hustep]; exact hk
  case phase =>
    rw [afterOf_ustep, hustep, afterOf_phase, hf]
    exact flightPhase_phaseAfter h.phase hk
  case geometry => rw [afterOf_cfg, hf]; exact h.geometry
  case noError => rw [afterOf_err, hf]; exact h.noError
  case polls => intro hne; rw [afterOf_polls] at hne; exact absurd hpolls hne
  case resetOut =>
    have hold := h.resetOut
    rw [afterOf_resetOut, afterOf_ustep, hustep]
    dsimp only
    rw [hreset]
    split_ifs with h0 h3
    · simp [h0.1]; omega
    · simp [h3.1]; omega
    · rw [Option.getD_none, hold]
      constructor
      · rintro ⟨rfl, hlo, hhi⟩
        exact ⟨rfl, by omega, by simp at h3; omega⟩
      · rintro ⟨rfl, hlo, hhi⟩
        exact ⟨rfl, by simp at h0; omega, by omega⟩

/-- A sample of a WAIT that finds busy asserted and does not reach the bound. -/
theorem FlightInv.stay (h : FlightInv i s) (hm : (microProgram i s)[s.ustep.toNat]? = some m)
    (hs : microStep m s = .stay s') : FlightInv i s' := by
  obtain rfl := eq_wait_of_stay hs
  have hwait : waitStep s = .stay s' := hs
  rcases waitStep_cases s with ⟨-, he⟩ | ⟨-, hn, he⟩ | ⟨-, -, he⟩ <;> rw [he] at hwait <;> cases hwait
  rw [afterBusy_frame]
  have hprog (bs : List Bool) (d p : Nat) (tr : List Event) :
      microProgram i { s with busyIn := bs, draws := d, polls := p, trace := tr } = microProgram i s :=
    microProgram_congr i rfl rfl rfl rfl
  constructor
  case active => exact h.active
  case checked => exact h.checked
  case latched => exact h.latched
  case driver => exact h.driver
  case inRange => rw [hprog]; exact h.inRange
  case phase => exact h.phase
  case geometry => exact h.geometry
  case noError => exact h.noError
  case polls =>
    intro hne
    rw [hprog]
    refine ⟨hm, ?_⟩
    dsimp only [pollsAfter] at hne ⊢
    cases hc : s.cfg.busyTimeoutPolls with
    | none =>
      obtain ⟨-, n, hn', -⟩ := h.polls (by simpa [hc] using hne)
      exact nomatch hc.symm.trans hn'
    | some n => exact ⟨n, rfl, hn n hc⟩
  case resetOut => exact h.resetOut

/-- A completed operation leaves a quiet block. -/
theorem FlightInv.quiet_of_complete (h : FlightInv i s) (hm : (microProgram i s)[s.ustep.toNat]? = some m)
    (hs : microStep m s = .advance s') (hk : s.ustep.toNat + 1 = (microProgram i s).length) :
    QuietInv (finish (afterOf i s.ustep.toNat { s' with ustep := s'.ustep + 1 })) := by
  have hf := (microStep_frame m s).eq
  have hreset := microStep_resetOut m s
  simp only [hs, MicroOutcome.state] at hf hreset
  obtain ⟨hnr, hnf⟩ := phaseAfter_of_last h.phase hk
  have hlast : ¬ (i = .init ∧ s.ustep.toNat ≤ 3) := by
    rintro ⟨rfl, hle⟩
    rw [microProgram_length] at hk
    dsimp only at hk
    omega
  have hpulse : m.pulse = none := by
    rw [pulse_of_getElem? hm, if_neg (fun h0 => hlast ⟨h0.1, by omega⟩), if_neg (fun h3 => hlast ⟨h3.1, by omega⟩)]
  have hout : s.resetOut = false := by
    by_contra hne
    obtain ⟨hi, -, hhi⟩ := h.resetOut.mp (by simpa using hne)
    exact hlast ⟨hi, hhi⟩
  constructor
  case notResetting => rw [finish_phase, afterOf_phase, hf]; exact hnr
  case notRefreshing => rw [finish_phase, afterOf_phase, hf]; exact hnf
  case polls => rfl
  case resetOut => rw [finish_resetOut, afterOf_resetOut]; dsimp only; rw [hreset, hpulse, Option.getD_none, hout]

/-- An error of the run leaves a quiet block. -/
theorem FlightInv.quiet_of_raised {e : ErrKind} (h : FlightInv i s)
    (hm : (microProgram i s)[s.ustep.toNat]? = some m) (hs : microStep m s = .raised e s') : QuietInv (raise e s') := by
  have hrun := microStep_raised_isRunTime hs
  have hout := h.resetOut_of_raised hm hs
  have hreset := microStep_resetOut m s
  have hpulse : m.pulse = none := by
    cases m with
    | rst v => cases hs
    | cmd | data | wait | delay => rfl
  simp only [hs, MicroOutcome.state, hpulse, Option.getD_none, hout] at hreset
  rw [raise_of_isRunTime hrun]
  exact ⟨nofun, nofun, rfl, hreset⟩

/-- The session's part after a micro-operation that advances. -/
theorem FlightInv.session_of_advance (h : FlightInv i s) (hses : SessionInv s) (hs : microStep m s = .advance s') :
    SessionInv (Machine.afterOf i s.ustep.toNat { s' with ustep := s'.ustep + 1 }) := by
  have hf := (microStep_frame m s).eq
  simp only [hs, MicroOutcome.state] at hf
  rw [hf]
  exact SessionInv.afterOf (s := _) (hses.congr rfl rfl rfl rfl rfl) h.phase h.geometry

end flight

end Sys2Proof.Machine
end

section
/-! PROOFS that the machine keeps its invariant and never stops (spec/93_implementation_defined.md section 1): the step of each
kind of state, then every run by induction on its length. -/

namespace Sys2Proof.Machine

/-! ### The idle block and the two checks' errors -/

theorem inv_blockReset {s : State} (h : Inv s) : Inv (blockReset s) :=
  .of_idle ⟨blockReset_fbMem_wf s, nofun, h.srcWf, h.srcBound⟩ (.of_uninitialized rfl rfl rfl) rfl rfl
    ⟨nofun, nofun, rfl, rfl⟩

theorem inv_accept {s : State} (h : Inv s) (ha : s.active = false) (d : Descriptor) : Inv (accept d s) := by
  obtain ⟨-, hq⟩ := h.idle ha
  exact .of_accepted (h.memories.congr rfl rfl rfl) (h.session.congr rfl rfl rfl rfl rfl) rfl
    ⟨hq.notResetting, hq.notRefreshing, hq.polls, hq.resetOut⟩

theorem inv_storeSrc {s : State} (h : Inv s) (ha : s.active = false) (a : Word) (v : Byte) : Inv (storeSrc a v s) := by
  obtain ⟨hi, hq⟩ := h.idle ha
  refine .of_idle ⟨h.fbWf, h.fbBound, storeSrc_wf a v h.srcWf, fun c hc => ?_⟩
    (h.session.congr rfl rfl rfl rfl rfl) ha hi ⟨hq.notResetting, hq.notRefreshing, hq.polls, hq.resetOut⟩
  rcases Memory.mem_write hc with rfl | hc
  · exact a.isLt
  · exact h.srcBound c hc

/-- No clause of the invariant speaks of the host's list. -/
theorem inv_hostQueue {s : State} (h : Inv s) (ha : s.active = false) (q : List HostAction) :
    Inv { s with hostQueue := q } := by
  obtain ⟨hi, hq⟩ := h.idle ha
  exact .of_idle (h.memories.congr rfl rfl rfl) (h.session.congr rfl rfl rfl rfl rfl) ha hi
    ⟨hq.notResetting, hq.notRefreshing, hq.polls, hq.resetOut⟩

theorem inv_hostAct {s : State} (h : Inv s) (ha : s.active = false) (act : HostAction) : Inv (hostAct act s) := by
  rcases hostAct_cases act s with ⟨a, v, -, he⟩ | ⟨d, -, -, he⟩ | ⟨d, -, he⟩ <;> rw [he]
  · exact inv_storeSrc h ha a v
  · exact h
  · exact inv_accept h ha d

/-- An error of decode or of the checks ends the operation and leaves the session. -/
theorem inv_raise_of_check {s : State} (h : Inv s) (hq : QuietInv s) {e : ErrKind} (he : e.isRunTime = false) :
    Inv (raise e s) := by
  rw [raise_of_isRunTime_false he]
  exact .of_idle (h.memories.congr rfl rfl rfl) (h.session.congr rfl rfl rfl rfl rfl) rfl rfl
    ⟨hq.notResetting, hq.notRefreshing, rfl, hq.resetOut⟩

/-! ### Operations of the framebuffer unit -/

theorem MemoriesInv.writeAll {s : State} (h : MemoriesInv s) {ws : List (Nat × Byte)}
    (hws : ∀ w ∈ ws, w.1 < s.cfg.fbSize) : MemoriesInv { s with fbMem := s.fbMem.writeAll ws } := by
  refine ⟨Memory.wf_writeAll ws h.fbWf, fun c hc => ?_, h.srcWf, h.srcBound⟩
  rcases Memory.mem_writeAll hc with hc | hc
  · exact hws c hc
  · exact h.fbBound c hc

theorem inv_exec_framebuffer {i : Instr} {s t : State} (h : Inv s) (hq : QuietInv s) (hi : isDriver i = false)
    (hx : exec i s = .next t) : Inv t := by
  rcases exec_framebuffer_cases hi hx with rfl | ⟨ws, hws, rfl⟩
  · exact inv_raise_of_check h hq rfl
  · exact .of_idle ((h.memories.writeAll hws).congr rfl rfl rfl) (h.session.congr rfl rfl rfl rfl rfl) rfl rfl
      ⟨hq.notResetting, hq.notRefreshing, rfl, hq.resetOut⟩

/-! ### Operations of the SEQ -/

theorem microProgram_length_pos {i : Instr} (hi : isDriver i = true) (s : State) : 0 < (microProgram i s).length := by
  cases i with
  | clearAll | clearRegion | blit => cases hi
  | _ => exact Nat.zero_lt_succ _

/-! The valid phases of R169, as equations. -/

theorem fresh_iff {p : Phase} : p.fresh = true ↔ p = .uninitialized := by
  cases p <;> decide

theorem sessionReady_iff {p : Phase} : p.sessionReady = true ↔ p = .initialized ∨ p = .modeEnabled := by
  cases p <;> decide

theorem hasMode_iff {p : Phase} : p.hasMode = true ↔ p = .modeEnabled := by
  cases p <;> decide

/-- The updates attached to accept leave the operand registers (R160). -/
theorem acceptOf_frame (i : Instr) (s : State) : acceptOf i s = { s with
    phase := (acceptOf i s).phase, modeValid := (acceptOf i s).modeValid, borderValid := (acceptOf i s).borderValid,
    awValid := (acceptOf i s).awValid } := by
  cases i <;> rfl

/-- The phase an operation starts in, its phase check passed (R37, R169). -/
theorem flightPhase_acceptOf {i : Instr} {s : State} (hi : isDriver i = true) (hp : phaseValidFor i s.phase = true) :
    flightPhase i 0 (acceptOf i s).phase := by
  cases i with
  | clearAll | clearRegion | blit => cases hi
  | init | refresh => rfl
  | setAddressWindow | enableMode | transfer | setBorder => exact hp
  | clearDisplay => exact hasMode_iff.mp hp

theorem SessionInv.acceptOf {i : Instr} {s : State} (h : SessionInv s) (hp : phaseValidFor i s.phase = true) :
    SessionInv (acceptOf i s) := by
  cases i with
  | init => exact ⟨by simp [Machine.acceptOf], by simp [Machine.acceptOf]⟩
  | refresh =>
    have hvalid := h.modePhase.mp (.inl (hasMode_iff.mp hp))
    exact ⟨by simp [Machine.acceptOf, hvalid], h.window⟩
  | _ => exact h

/-- Checks passed: the micro-program starts (R149, R160). -/
theorem flightInv_startOp {i : Instr} {d : Descriptor} {s : State} (hi : isDriver i = true) (hd : decode d = .op i)
    (hacc : accept d s = s) (hq : QuietInv s) (hp : phaseValidFor i s.phase = true)
    (hg : geometryOf i s.cfg = true) : FlightInv i (startOp (acceptOf i s)) := by
  have hustep : s.ustep = 0 := by rw [← hacc, accept_ustep]
  constructor
  case active => rw [startOp_active, acceptOf_frame, ← hacc, accept_active]
  case checked => rfl
  case latched =>
    have hop := decode_operandDescriptor_accept hd s
    rw [hacc] at hop
    rw [acceptOf_frame]
    exact hop
  case driver => exact hi
  case inRange =>
    rw [startOp_ustep, acceptOf_frame, hustep]
    exact microProgram_length_pos hi _
  case phase =>
    rw [startOp_phase, startOp_ustep, show (acceptOf i s).ustep = 0 by rw [acceptOf_frame, hustep]]
    exact flightPhase_acceptOf hi hp
  case geometry => rw [startOp_cfg, acceptOf_frame]; exact hg
  case noError => rw [startOp_err, acceptOf_frame, ← hacc, accept_err]
  case polls => intro hne; rw [startOp_polls, acceptOf_frame] at hne; exact absurd hq.polls hne
  case resetOut => rw [startOp_resetOut, startOp_ustep, acceptOf_frame]; simp [hq.resetOut, hustep]

theorem inv_exec_check {i : Instr} {d : Descriptor} {s t : State} (h : Inv s) (ha : s.active = true)
    (hs : s.issued = some d) (hi : isDriver i = true) (hd : decode d = .op i) (hx : exec i s = .next t) : Inv t := by
  obtain ⟨hacc, hq⟩ := h.accepted d ha hs
  rw [exec_check hi hs] at hx
  split at hx
  · cases hx
    exact inv_raise_of_check h hq rfl
  · have hp : phaseValidFor i s.phase = true := by simpa using ‹¬ phaseValidFor i s.phase = false›
    split at hx
    · cases hx
      exact inv_raise_of_check h hq rfl
    · have hg : geometryOf i s.cfg = true := by simpa using ‹¬ geometryOf i s.cfg = false›
      cases hx
      have hm : MemoriesInv (startOp (acceptOf i s)) := by
        rw [acceptOf_frame]
        exact h.memories.congr rfl rfl rfl
      exact .of_flight hm ((h.session.acceptOf hp).congr rfl rfl rfl rfl rfl)
        (flightInv_startOp hi hd hacc hq hp hg)

theorem inv_exec_flight {i : Instr} {s t : State} (h : Inv s) (hf : FlightInv i s) (hx : exec i s = .next t) :
    Inv t := by
  have hm : MemoriesInv t := by
    rw [exec_driver_frame hf.driver hx]
    exact h.memories.congr rfl rfl rfl
  rw [exec_inFlight hf.driver hf.checked] at hx
  obtain ⟨m, hmem, hcase⟩ := runMicro_cases hx
  rcases hcase with hs | ⟨e, s', hs, rfl⟩ | ⟨s', hs, hk, rfl⟩ | ⟨s', hs, hk, rfl⟩
  · have hframe := (microStep_frame m s).eq
    simp only [hs, MicroOutcome.state] at hframe
    have hses : SessionInv t := by
      rw [hframe]
      exact h.session.congr rfl rfl rfl rfl rfl
    exact .of_flight hm hses (hf.stay hmem hs)
  · have hrun := microStep_raised_isRunTime hs
    exact .of_idle hm (.of_uninitialized (by simp [hrun]) (by simp [hrun]) (by simp [hrun])) (raise_active ..)
      (raise_issued ..) (hf.quiet_of_raised hmem hs)
  · exact .of_idle hm ((hf.session_of_advance h.session hs).congr rfl rfl rfl rfl rfl) rfl rfl
      (hf.quiet_of_complete hmem hs hk)
  · exact .of_flight hm (hf.session_of_advance h.session hs) (hf.advance hmem hs hk)

/-! ### The step -/

/-- An operation in flight whose checks are done is the one the operand registers hold, an operation of the SEQ. -/
theorem Inv.current_flight {s : State} (h : Inv s) (ha : s.active = true) (hs : s.issued = none) :
    ∃ i, current s = .op i ∧ FlightInv i s := by
  obtain ⟨i, hf⟩ := h.flight ha hs
  exact ⟨i, (current_of_checked hs).trans hf.latched, hf⟩

theorem current_of_issued {s : State} {d : Descriptor} (hs : s.issued = some d) : current s = decode d := by
  rw [current, hs]
  rfl

theorem inv_step {s t : State} (h : Inv s) (hstep : step s = .next t) : Inv t := by
  rcases step_cases hstep with ⟨-, rfl⟩ | ⟨-, ha, hop⟩ | ⟨-, ha, ⟨-, rfl⟩ | ⟨act, q, -, rfl⟩⟩
  · exact inv_blockReset h
  · cases hs : s.issued with
    | none =>
      obtain ⟨i, hcur, hf⟩ := h.current_flight ha hs
      rcases hop with ⟨j, hj, hx⟩ | ⟨why, hwhy, -⟩
      · cases hcur.symm.trans hj
        exact inv_exec_flight h hf hx
      · cases hcur.symm.trans hwhy
    | some d =>
      obtain ⟨-, hq⟩ := h.accepted d ha hs
      rcases hop with ⟨i, hi, hx⟩ | ⟨why, -, rfl⟩
      · cases hd : isDriver i with
        | false => exact inv_exec_framebuffer h hq hd hx
        | true => exact inv_exec_check h ha hs hd ((current_of_issued hs).symm.trans hi) hx
      · exact inv_raise_of_check h hq rfl
  · exact h
  · exact inv_hostAct (inv_hostQueue h ha q) ha act

/-! ### Progress -/

/-- Every operation answers a next state, its `USTEP` an index of its micro-program once its checks are done. -/
theorem exec_progress {i : Instr} {s : State}
    (h : isDriver i = true → s.issued = none → s.ustep.toNat < (microProgram i s).length) :
    ∃ t, exec i s = .next t := by
  cases hi : isDriver i with
  | false => exact ⟨_, exec_framebuffer hi s⟩
  | true =>
    cases hs : s.issued with
    | none => rw [exec_inFlight hi hs]; exact runMicro_progress (h hi hs)
    | some d => rw [exec_check hi hs]; split_ifs <;> exact ⟨_, rfl⟩

theorem step_progress {s : State} (h : Inv s) : ∃ t, step s = .next t := by
  unfold step
  split
  · exact ⟨_, rfl⟩
  · split
    case isTrue ha =>
      unfold continueOp
      split
      case h_1 i hi =>
        refine exec_progress fun _ hs => ?_
        obtain ⟨j, hj, hf⟩ := h.current_flight ha hs
        cases hi.symm.trans hj
        exact hf.inRange
      case h_2 => exact ⟨_, rfl⟩
    case isFalse =>
      unfold idleStep
      split <;> exact ⟨_, rfl⟩

/-- A state that meets the invariant runs for every number of steps, by induction on it. -/
theorem runFor_progress {s : State} (h : Inv s) (n : Nat) : ∃ t, runFor n s = .next t := by
  induction n generalizing s with
  | zero => exact ⟨s, runFor_zero s⟩
  | succ n ih =>
    obtain ⟨u, hu⟩ := step_progress h
    obtain ⟨t, ht⟩ := ih (inv_step h hu)
    exact ⟨t, (runFor_succ hu n).trans ht⟩

theorem inv_reset : Inv State.reset :=
  .of_idle ⟨List.Pairwise.nil, nofun, List.Pairwise.nil, nofun⟩ (.of_uninitialized rfl rfl rfl) rfl rfl
    ⟨nofun, nofun, rfl, rfl⟩

end Sys2Proof.Machine

namespace Sys2Proof
open Machine

/-! ### The obligations -/

/-- Settles O57: the reset state is idle, its memories are empty and its session is invalid. -/
theorem resetMeetsTheInvariant : Obligations.ResetMeetsTheInvariant := inv_reset

/-- Settles O58: `inv_step`, by the kind of state the step starts from. -/
theorem stepKeepsTheInvariant : Obligations.StepKeepsTheInvariant := fun _ _ => inv_step

/-- Settles O59: a state that meets the invariant has a step (`step_progress`), which keeps it. -/
theorem theMachineNeverGetsStuck : Obligations.TheMachineNeverGetsStuck := fun _ => runFor_progress

end Sys2Proof
end

section
/-! PROOFS about a step of the machine (spec/30_encoding.md R94, R98; spec/10_state.md R26, R32, R37; spec/60_exceptions.md R195 to
R198; spec/70_reset_and_hazards.md R220): the step of an idle block, of a descriptor just accepted, and everything a step of
an operation of the SEQ can do, said once. -/

namespace Sys2Proof.Machine

/-! ### The step by the kind of state -/

theorem step_of_idle {s : State} (h : Idle s) : step s = idleStep s := by
  obtain ⟨ha, hr⟩ := h
  simp [step, ha, hr]

theorem step_of_action {s : State} (h : Idle s) {act : HostAction} {q : List HostAction} (hq : s.hostQueue = act :: q) :
    step s = .next (hostAct act { s with hostQueue := q }) := by
  rw [step_of_idle h, idleStep, hq]

theorem step_of_offers {s : State} (h : Idle s) {d : Descriptor} {q : List HostAction} (ho : Offers d q s) :
    step s = .next (accept d { s with hostQueue := q }) :=
  step_of_action h ho

theorem step_of_active {s : State} (hr : s.resetIn = false) (ha : s.active = true) : step s = continueOp s := by
  simp [step, hr, ha]

theorem continueOp_of_op {s : State} {i : Instr} (hc : current s = .op i) : continueOp s = exec i s := by
  rw [continueOp, hc]

theorem continueOp_of_illegal {s : State} {why : IllegalReason} (hc : current s = .illegal why) :
    continueOp s = .next (raise .illegalOperation s) := by
  rw [continueOp, hc]

section accepted
variable {s : State} (hr : s.resetIn = false) (q : List HostAction) {d : Descriptor}
include hr

/-- The step after accept is the decoded operation's (R94). -/
theorem step_accept_of_op {i : Instr} (hd : decode d = .op i) :
    step (accept d { s with hostQueue := q }) = exec i (accept d { s with hostQueue := q }) :=
  (step_of_active (s := accept d { s with hostQueue := q }) hr rfl).trans
    (continueOp_of_op (s := accept d { s with hostQueue := q }) hd)

theorem step_accept_of_illegal {why : IllegalReason} (hd : decode d = .illegal why) :
    step (accept d { s with hostQueue := q }) =
      .next (raise .illegalOperation (accept d { s with hostQueue := q })) :=
  (step_of_active (s := accept d { s with hostQueue := q }) hr rfl).trans
    (continueOp_of_illegal (s := accept d { s with hostQueue := q }) hd)

end accepted

/-! ### Everything a step of an operation of the SEQ can do -/

/-- What the step of the checks answers (R160, R198). -/
inductive CheckStep (i : Instr) (s t : State) : Prop where
  | badPhase (hp : phaseValidFor i s.phase = false) (ht : t = raise .protocolStateError s)
  | badGeometry (hp : phaseValidFor i s.phase = true) (hg : geometryOf i s.cfg = false) (ht : t = raise .invalidGeometry s)
  | started (hp : phaseValidFor i s.phase = true) (hg : geometryOf i s.cfg = true) (ht : t = startOp (acceptOf i s))

theorem checkStep_of_exec {i : Instr} {s t : State} {d : Descriptor} (hi : isDriver i = true) (hs : s.issued = some d)
    (hx : exec i s = .next t) : CheckStep i s t := by
  rw [exec_check hi hs] at hx
  cases hp : phaseValidFor i s.phase <;> cases hg : geometryOf i s.cfg <;> simp only [hp, hg] at hx <;> cases hx
  · exact .badPhase hp rfl
  · exact .badPhase hp rfl
  · exact .badGeometry hp hg rfl
  · exact .started hp hg rfl

/-- What the step of micro-operation `m` answers, `u` being what the micro-operation comes to (R149). -/
inductive FlightStep (i : Instr) (m : MicroOp) (s t u : State) : Prop where
  | stay (hs : microStep m s = .stay u) (ht : t = u)
  | raised (e : ErrKind) (hs : microStep m s = .raised e u) (ht : t = raise e u)
  | complete (hs : microStep m s = .advance u) (hk : s.ustep.toNat + 1 = (microProgram i s).length)
      (ht : t = finish (afterOf i s.ustep.toNat { u with ustep := u.ustep + 1 }))
  | goesOn (hs : microStep m s = .advance u) (hk : s.ustep.toNat + 1 < (microProgram i s).length)
      (ht : t = afterOf i s.ustep.toNat { u with ustep := u.ustep + 1 })

theorem flightStep_of_exec {i : Instr} {s t : State} (hi : isDriver i = true) (hs : s.issued = none)
    (hx : exec i s = .next t) :
    ∃ m u, (microProgram i s)[s.ustep.toNat]? = some m ∧ FlightStep i m s t u := by
  rw [exec_inFlight hi hs] at hx
  obtain ⟨m, hm, h | ⟨e, u, h, ht⟩ | ⟨u, h, hk, ht⟩ | ⟨u, h, hk, ht⟩⟩ := runMicro_cases hx
  · exact ⟨m, t, hm, .stay h rfl⟩
  · exact ⟨m, u, hm, .raised e h ht⟩
  · exact ⟨m, u, hm, .complete h hk ht⟩
  · exact ⟨m, u, hm, .goesOn h hk ht⟩

section flightStep
variable {i : Instr} {m : MicroOp} {s t u : State}

/-- `u` is what the micro-operation comes to. -/
theorem FlightStep.state_eq (h : FlightStep i m s t u) : (microStep m s).state = u := by
  cases h with
  | stay hs | raised _ hs | complete hs | goesOn hs => rw [hs]; rfl

/-- The micro-operation leaves everything but TRACE, the inputs, `POLLS` and `RESET_OUT`. -/
theorem FlightStep.frame (h : FlightStep i m s t u) : SameButMicro s u := h.state_eq ▸ microStep_frame m s

/-- The end of a step adds nothing to TRACE. -/
theorem FlightStep.trace_eq (h : FlightStep i m s t u) : t.trace = u.trace := by
  cases h with
  | stay _ ht | raised _ _ ht | complete _ _ ht | goesOn _ _ ht => simp [ht]

/-- Nor does it drive the reset output. -/
theorem FlightStep.resetOut_eq (h : FlightStep i m s t u) : t.resetOut = m.pulse.getD s.resetOut := by
  rw [← microStep_resetOut, h.state_eq]
  cases h with
  | stay _ ht | raised _ _ ht | complete _ _ ht | goesOn _ _ ht => simp [ht]

/-- An operation that goes on keeps `ERR`. -/
theorem FlightStep.err_of_active (h : FlightStep i m s t u) (ha : t.active = true) : t.err = s.err := by
  have hu : u.err = s.err := by rw [h.frame.eq]
  cases h with
  | stay _ ht => rw [ht, hu]
  | goesOn _ _ ht => rw [ht, afterOf_err]; exact hu
  | raised _ _ ht => rw [ht, raise_active] at ha; cases ha
  | complete _ _ ht => rw [ht] at ha; cases ha

end flightStep

/-- A step of an operation of the SEQ that leaves it in flight keeps `ERR` (R26). -/
theorem exec_driver_err {i : Instr} {s t : State} (hi : isDriver i = true) (hx : exec i s = .next t)
    (ha : t.active = true) : t.err = s.err := by
  cases hs : s.issued with
  | none =>
    obtain ⟨m, u, -, h⟩ := flightStep_of_exec hi hs hx
    exact h.err_of_active ha
  | some d =>
    cases checkStep_of_exec hi hs hx with
    | badPhase _ ht | badGeometry _ _ ht => rw [ht, raise_active] at ha; cases ha
    | started _ _ ht => rw [ht, acceptOf_frame]; rfl

/-- What no step of an operation changes: the source memory, the configuration, the host's list and the operand registers. -/
structure OperationFrame (s t : State) : Prop where
  src       : t.src = s.src
  cfg       : t.cfg = s.cfg
  hostQueue : t.hostQueue = s.hostQueue
  operands  : operandDescriptor t = operandDescriptor s

theorem OperationFrame.of_raise (e : ErrKind) (s : State) : OperationFrame s (raise e s) :=
  ⟨raise_src .., raise_cfg .., raise_hostQueue .., by rw [raise_frame]; rfl⟩

theorem OperationFrame.of_exec {i : Instr} {s t : State} (hx : exec i s = .next t) : OperationFrame s t := by
  cases hi : isDriver i with
  | false =>
    rw [exec_framebuffer hi] at hx
    cases hx
    rw [fbuResult_frame]
    exact ⟨rfl, rfl, rfl, rfl⟩
  | true =>
    rw [exec_driver_frame hi hx]
    exact ⟨rfl, rfl, rfl, rfl⟩

/-- The operation in flight, or an illegal descriptor, steps. -/
theorem OperationFrame.of_step {s t : State} (hr : s.resetIn = false) (ha : s.active = true) (h : step s = .next t) :
    OperationFrame s t := by
  rw [step_of_active hr ha] at h
  cases hc : current s with
  | op i => rw [continueOp_of_op hc] at h; exact .of_exec h
  | illegal why => rw [continueOp_of_illegal hc] at h; cases h; exact .of_raise _ s

/-- An operation of the SEQ does not change `FB_MEM`. -/
theorem exec_driver_fbMem {i : Instr} {s t : State} (hi : isDriver i = true) (hx : exec i s = .next t) :
    t.fbMem = s.fbMem := by
  rw [exec_driver_frame hi hx]

/-- An action of the host changes no memory of the block, nor its configuration. -/
theorem hostAct_frame (act : HostAction) (s : State) :
    (hostAct act s).cfg = s.cfg ∧ (hostAct act s).fbMem = s.fbMem ∧
      ((∀ a v, act ≠ .store a v) → (hostAct act s).src = s.src) := by
  rcases hostAct_cases act s with ⟨a, v, hact, he⟩ | ⟨d, -, -, he⟩ | ⟨d, -, he⟩ <;> rw [he]
  · exact ⟨rfl, rfl, fun h => absurd hact (h a v)⟩
  · exact ⟨rfl, rfl, fun _ => rfl⟩
  · exact ⟨rfl, rfl, fun _ => rfl⟩

/-! ### The checks -/

theorem isDriver_of_phaseInvalid {i : Instr} {p : Phase} (h : phaseValidFor i p = false) : isDriver i = true := by
  cases i with
  | clearAll | clearRegion | blit => cases h
  | _ => rfl

theorem isDriver_of_geometryInvalid {i : Instr} {c : Config} (h : geometryOf i c = false) : isDriver i = true := by
  cases i with
  | clearAll | clearRegion | blit => cases h
  | _ => rfl

section checks
variable {i : Instr} {s : State} {d : Descriptor} (hs : s.issued = some d)
include hs

theorem exec_of_phaseInvalid (hp : phaseValidFor i s.phase = false) :
    exec i s = .next (raise .protocolStateError s) := by
  rw [exec_check (isDriver_of_phaseInvalid hp) hs, if_pos hp]

theorem exec_of_geometryInvalid (hp : phaseValidFor i s.phase = true) (hg : geometryOf i s.cfg = false) :
    exec i s = .next (raise .invalidGeometry s) := by
  rw [exec_check (isDriver_of_geometryInvalid hg) hs, if_neg (by simp [hp]), if_pos hg]

theorem exec_of_checked (hi : isDriver i = true) (hp : phaseValidFor i s.phase = true)
    (hg : geometryOf i s.cfg = true) : exec i s = .next (startOp (acceptOf i s)) := by
  rw [exec_check hi hs, if_neg (by simp [hp]), if_neg (by simp [hg])]

/-- An operation of the SEQ is rejected exactly in its invalid phases (R169): the other answers of the check step have another
`ERR`, or are active. -/
theorem exec_eq_rejected_iff (hi : isDriver i = true) (ha : s.active = true) :
    exec i s = .next { s with err := some .protocolStateError, polls := 0, active := false, issued := none } ↔
      ¬ phaseValidFor i s.phase = true := by
  constructor
  · intro hx hp
    cases hg : geometryOf i s.cfg with
    | false =>
      rw [exec_of_geometryInvalid hs hp hg] at hx
      have herr := congrArg State.err (Host.Outcome.next.inj hx)
      simp at herr
    | true =>
      rw [exec_of_checked hs hi hp hg] at hx
      have hact := congrArg State.active (Host.Outcome.next.inj hx)
      rw [startOp_active, acceptOf_frame] at hact
      exact absurd (hact.symm.trans ha) Bool.false_ne_true
  · intro hp
    rw [exec_of_phaseInvalid hs (by simpa using hp), raise_of_isRunTime_false rfl]

end checks

/-- SET_ADDRESS_WINDOW's check as inequalities (R163). -/
theorem windowValid_iff (xs xe ys ye : Int) : windowValid xs xe ys ye = true ↔
    0 ≤ xs ∧ xs ≤ 2047 ∧ 0 ≤ xe ∧ xe ≤ 2047 ∧ 0 ≤ ys ∧ 0 ≤ ye := by
  simp [windowValid, and_assoc]

/-- TRANSFER's check: the framebuffer has a byte (R165). -/
theorem framebufferNonempty_iff (c : Config) : framebufferNonempty c = true ↔ c.fbSize ≠ 0 := by
  have hs := fbStride_mul c
  simp only [framebufferNonempty, Config.fbSize, Bool.and_eq_true, decide_eq_true_eq, ne_eq, Nat.mul_eq_zero]
  omega

end Sys2Proof.Machine

namespace Sys2Proof
open Machine

/-! ### Which descriptors are illegal (R98) -/

theorem usesFlag_iff (i : Instr) : i.usesFlag = true ↔ i.opc = 0x12#8 ∨ i.opc = 0x15#8 := by
  cases i <;> simp [Instr.usesFlag, Instr.opc]

/-- The ten opcodes of R96. -/
theorem mem_opcodes_iff (opc : Byte) :
    opc ∈ [0x01#8, 0x02#8, 0x03#8, 0x10#8, 0x11#8, 0x12#8, 0x13#8, 0x14#8, 0x15#8, 0x16#8] ↔ ∃ i : Instr, i.opc = opc := by
  have htable : [0x01#8, 0x02#8, 0x03#8, 0x10#8, 0x11#8, 0x12#8, 0x13#8, 0x14#8, 0x15#8, 0x16#8] =
    [Instr.clearAll, .clearRegion default, .blit 0 0 default, .init, .setAddressWindow 0 0 0 0, .enableMode default,
      .transfer, .refresh, .setBorder false, .clearDisplay].map Instr.opc := rfl
  constructor
  · rw [htable, List.mem_map]
    rintro ⟨i, -, hi⟩
    exact ⟨i, hi⟩
  · rintro ⟨i, rfl⟩
    cases i <;> simp [Instr.opc]

theorem decode_legal_iff (d : Descriptor) : (∃ i, decode d = .op i) ↔
    d.reserved = 0#23 ∧ (∃ i : Instr, i.opc = d.opc) ∧ (d.flag = true → d.opc = 0x12#8 ∨ d.opc = 0x15#8) := by
  constructor
  · rintro ⟨i, hi⟩
    obtain ⟨hres, hopc, hf⟩ := (selects_row_iff i d).mp (decode_eq_op_iff.mp hi).1
    refine ⟨hres, ⟨i, hopc.symm⟩, fun hflag => ?_⟩
    rw [hopc, ← usesFlag_iff]
    by_contra hu
    exact absurd (hflag.symm.trans (hf (by simpa using hu))) Bool.true_eq_false_eq_False
  · rintro ⟨hres, ⟨i, hi⟩, hflag⟩
    refine ⟨_, decode_of_selects ((selects_row_iff i d).mpr ⟨hres, hi.symm, fun hu => ?_⟩)⟩
    by_contra hf
    have huse := (usesFlag_iff i).mpr (hi ▸ hflag (by simpa using hf))
    exact absurd (huse.symm.trans hu) Bool.true_eq_false_eq_False

theorem decode_illegal_iff (d : Descriptor) : (∃ why, decode d = .illegal why) ↔ ¬ ∃ i, decode d = .op i := by
  cases decode d <;> simp

/-! ### The obligations -/

/-- Settles O3: `decode_legal_iff`, then accept and the step that ends with the error. -/
theorem illegalDescriptorEndsAtOnce : Obligations.IllegalDescriptorEndsAtOnce := by
  unfold Obligations.IllegalDescriptorEndsAtOnce
  refine ⟨fun d => ?_, fun s d q why hidle ho hp hd => ?_⟩
  · rw [decode_illegal_iff, decode_legal_iff, mem_opcodes_iff]
    tauto
  · have hend := step_accept_of_illegal hidle.2 q hd
    rw [runFor_succ (step_of_offers hidle ho), runFor_succ hend, runFor_zero, raise_of_isRunTime_false rfl]
    simp [accept, hidle.1, hp]

/-- Settles O7: accept hands the descriptor to `current`, the operand registers do once the checks are done. -/
theorem stepRunsTheDecodedOperation : Obligations.StepRunsTheDecodedOperation := by
  unfold Obligations.StepRunsTheDecodedOperation
  refine ⟨fun s d q i hidle ho hd => ⟨step_of_offers hidle ho, step_accept_of_op hidle.2 q hd⟩,
    fun s i hr ha hs hd => ?_⟩
  exact (step_of_active hr ha).trans (continueOp_of_op ((current_of_checked hs).trans hd))

/-- Settles O8: accept's fields are the descriptor's, the checks come in the next step, and `OperationFrame` holds after it. -/
theorem descriptorIsLatchedWholeAndHeld : Obligations.DescriptorIsLatchedWholeAndHeld := by
  unfold Obligations.DescriptorIsLatchedWholeAndHeld
  refine ⟨fun s d q hidle ho => ⟨_, step_of_offers hidle ho, rfl, ?_, fun i hd => ?_⟩, fun s t hr ha h => ?_⟩
  · cases hd : decode d with
    | op i => exact step_accept_of_op hidle.2 q hd
    | illegal why => exact step_accept_of_illegal hidle.2 q hd
  · rw [step_accept_of_op hidle.2 q hd]
    refine ⟨decode_operandDescriptor_accept hd _, exec_of_phaseInvalid rfl, exec_of_geometryInvalid rfl, ?_, ?_⟩
    · rintro r rfl hv
      exact exec_clearRegion_of_invalid hv _
    · rintro base len r rfl hv
      exact exec_blit_of_invalid (by simpa using hv) _
  · have hframe := OperationFrame.of_step hr ha h
    exact ⟨hframe.hostQueue, hframe.operands⟩

/-- Settles O9, by the kind of step: an action of the host, an operation of the SEQ (`exec_driver_err`), of the framebuffer unit, or
an illegal descriptor. -/
theorem activeFromAcceptToTheEnd : Obligations.ActiveFromAcceptToTheEnd := by
  unfold Obligations.ActiveFromAcceptToTheEnd
  intro s t hr h
  refine ⟨fun ha => ?_, fun ha => ?_⟩
  · rw [step_of_idle ⟨ha, hr⟩, idleStep] at h
    cases hq : s.hostQueue with
    | nil => rw [hq] at h; cases h; simp [ha]
    | cons act q =>
      rw [hq] at h
      cases h
      have hcases := hostAct_cases act { s with hostQueue := q }
      rcases hcases with ⟨a, v, rfl, he⟩ | ⟨d, rfl, herr, he⟩ | ⟨d, hact, he⟩ <;> rw [he]
      · simp [ha]
      · exact ⟨by simp [ha, show s.err ≠ none from herr], by simp [ha], fun _ => rfl⟩
      · refine ⟨⟨fun _ => ⟨d, q, ?_⟩, fun _ => rfl⟩, fun _ => ?_, by simp⟩
        · rcases hact with rfl | ⟨rfl, herr⟩
          · exact .inl rfl
          · exact .inr ⟨rfl, herr⟩
        · simp [hostRead, statusReg, errCode]
  · rw [step_of_active hr ha] at h
    cases hc : current s with
    | illegal why =>
      rw [continueOp_of_illegal hc] at h
      cases h
      exact ⟨by simp, nofun, fun _ _ => ⟨rfl, rfl⟩⟩
    | op i =>
      rw [continueOp_of_op hc] at h
      cases hi : isDriver i with
      | true =>
        refine ⟨exec_driver_err hi h, fun j hj hd => ?_, nofun⟩
        cases hj
        exact absurd (hi.symm.trans hd) Bool.true_eq_false_eq_False
      | false =>
        rw [exec_framebuffer hi] at h
        cases h
        have hact : (fbuResult i s).active = false := by rw [fbuResult_frame]
        refine ⟨by simp [hact], fun j _ _ => ⟨hact, ?_⟩, nofun⟩
        rw [fbuResult_err]
        split
        · exact .inl rfl
        · exact .inr rfl

/-- Settles O14, by the kind of step. -/
theorem whoWritesWhichMemory : Obligations.WhoWritesWhichMemory := by
  unfold Obligations.WhoWritesWhichMemory
  intro s t h
  rcases step_cases h with ⟨hr, rfl⟩ | ⟨hr, ha, -⟩ | ⟨hr, ha, hidle⟩
  · have hnot : ¬ Idle s := fun hi => absurd (hi.2.symm.trans hr) Bool.false_ne_true
    exact ⟨rfl, fun _ => rfl, fun _ _ _ hi => absurd hi hnot, fun hi => absurd hi hnot, fun hr' =>
      absurd (hr'.symm.trans hr) Bool.false_ne_true⟩
  · have hnot : ¬ Idle s := fun hi => absurd (hi.1.symm.trans ha) Bool.false_ne_true
    have hframe := OperationFrame.of_step hr ha h
    refine ⟨hframe.cfg, fun _ => hframe.src, fun _ _ _ hi => absurd hi hnot, fun hi => absurd hi hnot,
      fun _ _ hdriver => ?_⟩
    rw [step_of_active hr ha] at h
    cases hc : current s with
    | op i => rw [continueOp_of_op hc] at h; exact exec_driver_fbMem (hdriver i hc) h
    | illegal why => rw [continueOp_of_illegal hc] at h; cases h; rfl
  · have hnot : ¬ s.active = true := by simp [ha]
    rcases hidle with ⟨hq, rfl⟩ | ⟨act, q, hq, rfl⟩
    · exact ⟨rfl, fun _ => rfl, by simp [hq], fun _ => rfl, fun _ _ _ => rfl⟩
    · obtain ⟨hcfg, hfb, hsrc⟩ := hostAct_frame act { s with hostQueue := q }
      refine ⟨hcfg, fun hno => ?_, fun a v q' _ hq' => ?_, fun _ => hfb, fun _ _ _ => hfb⟩
      · rcases hno with hno | ha' | hr'
        · exact hsrc fun a v hact => hno a v q (hact ▸ hq)
        · exact absurd ha' hnot
        · exact absurd (hr.symm.trans hr') Bool.false_ne_true
      · cases hq.symm.trans hq'
        rfl

/-- Settles O15: `issueIfOk` is an `issue` when `ERR` is 0, and nothing otherwise. -/
theorem showStopsAfterAnError : Obligations.ShowStopsAfterAnError := by
  unfold Obligations.ShowStopsAfterAnError
  intro s d q hidle hq
  rw [step_of_action hidle hq]
  refine ⟨fun herr => by simp [hostAct, herr], fun herr => ?_⟩
  have hissue := step_of_action (s := { s with hostQueue := .issue d :: q }) hidle rfl
  rw [hissue]
  simp [hostAct, herr]

/-- Settles O29: `exec_eq_rejected_iff` with the table's phases, and the errors of the framebuffer unit. -/
theorem phaseTableAtAccept : Obligations.PhaseTableAtAccept := by
  unfold Obligations.PhaseTableAtAccept
  intro s d ha hs
  have hready : ¬ s.phase.sessionReady = true ↔ s.phase ≠ .initialized ∧ s.phase ≠ .modeEnabled := by
    rw [sessionReady_iff, not_or]
  have hmode : ¬ s.phase.hasMode = true ↔ s.phase ≠ .modeEnabled := not_congr hasMode_iff
  refine ⟨(exec_eq_rejected_iff hs rfl ha).trans (not_congr fresh_iff),
    fun xs xe ys ye => (exec_eq_rejected_iff hs rfl ha).trans hready,
    fun m => (exec_eq_rejected_iff hs rfl ha).trans hready, (exec_eq_rejected_iff hs rfl ha).trans hready,
    (exec_eq_rejected_iff hs rfl ha).trans hmode, fun w => (exec_eq_rejected_iff hs rfl ha).trans hready,
    (exec_eq_rejected_iff hs rfl ha).trans hmode, fun i t hi hx => ?_⟩
  rw [exec_framebuffer hi] at hx
  cases hx
  rw [fbuResult_err]
  split <;> simp

/-- Settles O30: the answers of the check step for the two operations that have a geometry check. -/
theorem geometryIsCheckedAfterThePhase : Obligations.GeometryIsCheckedAfterThePhase := by
  unfold Obligations.GeometryIsCheckedAfterThePhase
  intro s d hs hphase
  have hp : s.phase.sessionReady = true := sessionReady_iff.mpr hphase
  refine ⟨fun xs xe ys ye h => ?_, fun xs xe ys ye h0 h1 h2 h3 h4 h5 => ?_, fun h => ?_, fun h => ?_⟩
  · have hg : geometryOf (.setAddressWindow xs xe ys ye) s.cfg = false :=
      Bool.eq_false_of_not_eq_true (mt (windowValid_iff xs xe ys ye).mp h)
    rw [exec_of_geometryInvalid (i := .setAddressWindow xs xe ys ye) hs hp hg, raise_of_isRunTime_false rfl]
  · exact exec_of_checked hs rfl hp ((windowValid_iff xs xe ys ye).mpr ⟨h0, h1, h2, h3, h4, h5⟩)
  · have hg : geometryOf .transfer s.cfg = false :=
      Bool.eq_false_of_not_eq_true fun hne => (framebufferNonempty_iff s.cfg).mp hne h
    rw [exec_of_geometryInvalid (i := .transfer) hs hp hg, raise_of_isRunTime_false rfl]
  · exact exec_of_checked hs rfl hp ((framebufferNonempty_iff s.cfg).mpr h)

/-- Settles O31: the check step passed (`exec_of_checked`), with the updates of `acceptOf`. -/
theorem acceptStartsTheOperation : Obligations.AcceptStartsTheOperation := by
  unfold Obligations.AcceptStartsTheOperation
  refine fun s d hs => ⟨fun hp => ?_, fun hp => ⟨fun m => ?_, fun w => ?_⟩, fun hp => ⟨?_, ?_⟩⟩
  · exact exec_of_checked hs rfl (fresh_iff.mpr hp) rfl
  · exact exec_of_checked hs rfl (sessionReady_iff.mpr hp) rfl
  · exact exec_of_checked hs rfl (sessionReady_iff.mpr hp) rfl
  · exact exec_of_checked hs rfl (hasMode_iff.mpr hp) rfl
  · exact exec_of_checked hs rfl (hasMode_iff.mpr hp) rfl

/-- Settles O50: an operation of the unit that ends in error writes nothing, an operation of the SEQ never writes a memory. -/
theorem errorsLeaveTheFramebuffer : Obligations.ErrorsLeaveTheFramebuffer := by
  unfold Obligations.ErrorsLeaveTheFramebuffer
  intro i s t hx
  refine ⟨fun herr => ?_, fun hi => ?_⟩
  · cases hi : isDriver i with
    | true => exact exec_driver_fbMem hi hx
    | false =>
      rw [exec_framebuffer hi] at hx
      cases hx
      exact fbuResult_fbMem_of_err herr
  · have hframe := OperationFrame.of_exec hx
    have hepoch : t.epoch = s.epoch := by rw [exec_driver_frame hi hx]
    exact ⟨exec_driver_fbMem hi hx, hframe.src, hframe.cfg, hepoch, hframe.operands⟩

/-- Settles O11: `blockReset` keeps what is outside the block, and with an empty list the idle block waits. -/
theorem blockResetLeavesTheOutsideAlone : Obligations.BlockResetLeavesTheOutsideAlone := by
  unfold Obligations.BlockResetLeavesTheOutsideAlone
  refine fun s h => ⟨_, step_of_resetIn h, rfl, rfl, rfl, rfl, rfl, fun hq => ?_⟩
  rw [step_of_idle ⟨rfl, rfl⟩, idleStep, blockReset_hostQueue, hq]

/-- Settles O12: after `blockReset` no byte is listed. -/
theorem blockResetForgetsTheFramebuffer : Obligations.BlockResetForgetsTheFramebuffer := by
  unfold Obligations.BlockResetForgetsTheFramebuffer
  exact fun s h => ⟨_, step_of_resetIn h, rfl, fun a => rfl⟩

end Sys2Proof
end

section
/-! PROOFS about the whole machine (spec/10_state.md R30, R32, R37; spec/00_scope.md R14; spec/60_exceptions.md R191, R194): the
errors of the run, the changes of the phase, TRACE and the reset output, and the window registers that steer nothing. -/

namespace Sys2Proof.Machine

/-! ### The errors of the run -/

/-- Everything that can make a micro-operation raise: a transaction that failed, a WAIT whose bound is reached (R142, R145). -/
theorem microStep_raised_cases {m : MicroOp} {s u : State} {e : ErrKind} (h : microStep m s = .raised e u) :
    (e = .transportError ∧ nextBus s = .fail) ∨
    (e = .busyTimeout ∧ nextBusy s = true ∧ ∃ n, s.cfg.busyTimeoutPolls = some n ∧ n ≤ s.polls + 1) := by
  have bus (ev : BusResult → Event) (h : busStep ev s = .raised e u) : e = .transportError ∧ nextBus s = .fail := by
    cases hb : nextBus s with
    | ok => rw [busStep_ok hb] at h; cases h
    | fail => rw [busStep_fail hb] at h; cases h; exact ⟨rfl, rfl⟩
  cases m with
  | cmd b => exact .inl (bus _ h)
  | data bs => exact .inl (bus _ h)
  | wait =>
    have hw : waitStep s = .raised e u := h
    rcases waitStep_cases s with ⟨-, he⟩ | ⟨-, -, he⟩ | ⟨hb, hn, he⟩ <;> rw [he] at hw <;> cases hw
    exact .inr ⟨rfl, hb, hn⟩
  | rst v => cases h
  | delay d => cases h

theorem isRunTime_iff {e : ErrKind} : e.isRunTime = true ↔ e = .transportError ∨ e = .busyTimeout := by
  cases e <;> decide

/-- A step from `ERR = 0` to an error of the run is a micro-operation that raised it. -/
theorem exec_runTimeError {i : Instr} {s t : State} {e : ErrKind} (h0 : s.err = none) (hx : exec i s = .next t)
    (ht : t.err = some e) (he : e.isRunTime = true) :
    isDriver i = true ∧ s.issued = none ∧ ∃ m u, microStep m s = .raised e u ∧ SameButMicro s u ∧ t = raise e u := by
  cases hi : isDriver i with
  | false =>
    rw [exec_framebuffer hi] at hx
    cases hx
    rw [fbuResult_err] at ht
    split at ht <;> cases ht
    cases he
  | true =>
    cases hs : s.issued with
    | some d =>
      cases checkStep_of_exec hi hs hx with
      | badPhase _ heq | badGeometry _ _ heq =>
        rw [heq, raise_err] at ht
        cases ht
        cases he
      | started _ _ heq =>
        rw [heq, startOp_err, acceptOf_frame] at ht
        exact nomatch h0.symm.trans ht
    | none =>
      obtain ⟨m, u, -, h⟩ := flightStep_of_exec hi hs hx
      have hframe := h.frame
      have hu : u.err = none := by rw [hframe.eq]; exact h0
      cases h with
      | stay _ heq => rw [heq, hu] at ht; cases ht
      | complete _ _ heq => rw [heq] at ht; cases ht
      | goesOn _ _ heq => rw [heq, afterOf_err] at ht; exact nomatch hu.symm.trans ht
      | raised e' hm heq =>
        rw [heq, raise_err] at ht
        cases ht
        exact ⟨rfl, rfl, m, u, hm, hframe, heq⟩

theorem phaseValidFor_uninitialized {j : Instr} (hd : isDriver j = true) (hj : j ≠ .init) :
    phaseValidFor j .uninitialized = false := by
  cases j with
  | clearAll | clearRegion | blit => cases hd
  | init => exact absurd rfl hj
  | _ => rfl

/-! ### The phase -/

/-- The registers of R37 a step leaves, or changes by one of the events of its table. -/
def SessionKept (s t : State) : Prop := t.phase = s.phase ∧ t.modeValid = s.modeValid ∧ t.mode = s.mode

theorem sessionKept_hostAct (act : HostAction) (s : State) : SessionKept s (hostAct act s) := by
  rcases hostAct_cases act s with ⟨a, v, -, he⟩ | ⟨d, -, -, he⟩ | ⟨d, -, he⟩ <;> rw [he] <;> exact ⟨rfl, rfl, rfl⟩

theorem sessionKept_raise {e : ErrKind} (he : e.isRunTime = false) (s : State) : SessionKept s (raise e s) := by
  rw [raise_of_isRunTime_false he]
  exact ⟨rfl, rfl, rfl⟩

/-- The positions that change the phase or the mode (R37); every other leaves them. -/
theorem session_positions (i : Instr) (k : Nat) (p : Phase) (v : Bool) (md : Mode) :
    (phaseAfter i k p = p ∧ modeValidAfter i k v = v ∧ modeAfter i k md = md) ∨ (i = .init ∧ k = 23) ∨
    (∃ m, i = .enableMode m ∧ k = 5) ∨ (i = .refresh ∧ k = 3) ∨ (i = .clearDisplay ∧ (k = 9 ∨ k = 13)) := by
  cases i with
  | clearAll | clearRegion | blit | setAddressWindow | transfer | setBorder => exact .inl ⟨rfl, rfl, rfl⟩
  | init =>
    by_cases hk : k = 23
    · exact .inr (.inl ⟨rfl, hk⟩)
    · exact .inl (by simp [phaseAfter, modeValidAfter, modeAfter, hk])
  | enableMode m =>
    by_cases hk : k = 5
    · exact .inr (.inr (.inl ⟨m, rfl, hk⟩))
    · exact .inl (by simp [phaseAfter, modeValidAfter, modeAfter, hk])
  | refresh =>
    by_cases hk : k = 3
    · exact .inr (.inr (.inr (.inl ⟨rfl, hk⟩)))
    · exact .inl (by simp [phaseAfter, modeValidAfter, modeAfter, hk])
  | clearDisplay =>
    by_cases hk : k = 9 ∨ k = 13
    · exact .inr (.inr (.inr (.inr ⟨rfl, hk⟩)))
    · rw [not_or] at hk
      exact .inl (by simp [phaseAfter, modeValidAfter, modeAfter, hk])

section advance
variable {i : Instr} {m : MicroOp} {s t u : State} (h : FlightStep i m s t u) (hs : microStep m s = .advance u)
include h hs

/-- The session's registers after a micro-operation that advances. -/
theorem FlightStep.session_of_advance : t.phase = phaseAfter i s.ustep.toNat s.phase ∧
    t.modeValid = modeValidAfter i s.ustep.toNat s.modeValid ∧ t.mode = modeAfter i s.ustep.toNat s.mode := by
  have hframe := h.frame.eq
  cases h with
  | stay hs' | raised _ hs' => cases hs.symm.trans hs'
  | complete _ _ ht =>
    rw [ht, finish_phase, finish_modeValid, finish_mode, afterOf_phase, afterOf_modeValid, afterOf_mode, hframe]
    exact ⟨rfl, rfl, rfl⟩
  | goesOn _ _ ht =>
    rw [ht, afterOf_phase, afterOf_modeValid, afterOf_mode, hframe]
    exact ⟨rfl, rfl, rfl⟩

theorem FlightStep.ended_of_last (hk : s.ustep.toNat + 1 = (microProgram i s).length) :
    t.active = false ∧ t.err = none := by
  cases h with
  | stay hs' | raised _ hs' => cases hs.symm.trans hs'
  | complete _ _ ht => rw [ht]; exact ⟨rfl, rfl⟩
  | goesOn _ hk' => exact absurd hk hk'.ne

theorem FlightStep.active_of_inside (ha : s.active = true) (hk : s.ustep.toNat + 1 < (microProgram i s).length) :
    t.active = true := by
  have hframe := h.frame.eq
  cases h with
  | stay hs' | raised _ hs' => cases hs.symm.trans hs'
  | complete _ hk' => exact absurd hk' hk.ne
  | goesOn _ _ ht => rw [ht, afterOf_active, hframe]; exact ha

end advance

/-- A WAIT that advances found busy clear. -/
theorem nextBusy_of_wait_advance {s u : State} (h : microStep .wait s = .advance u) : nextBusy s = false := by
  have hw : waitStep s = .advance u := h
  rcases waitStep_cases s with ⟨hb, -⟩ | ⟨-, -, he⟩ | ⟨-, -, he⟩
  · exact hb
  · rw [he] at hw; cases hw
  · rw [he] at hw; cases hw

/-- A micro-operation that advances leaves the session's registers, or is one of the table's events (R37). -/
theorem session_of_advance_cases {i : Instr} {m : MicroOp} {s t u : State} (hinv : Inv s) (hf : FlightInv i s)
    (hm : (microProgram i s)[s.ustep.toNat]? = some m) (hstep : FlightStep i m s t u) (hs : microStep m s = .advance u) :
    SessionKept s t ∨
    (i = .init ∧ s.phase = .resetting ∧ t.phase = .initialized ∧ t.active = false ∧ t.err = none ∧
      t.modeValid = false ∧ t.mode = s.mode) ∨
    (i = .enableMode t.mode ∧ (s.phase = .initialized ∨ s.phase = .modeEnabled) ∧ t.phase = .modeEnabled ∧
      t.active = false ∧ t.err = none ∧ t.modeValid = true) ∨
    (i = .clearDisplay ∧ s.ustep.toNat = 9 ∧ s.phase = .modeEnabled ∧ t.phase = .refreshing ∧ t.active = true ∧
      t.mode = s.mode ∧ t.modeValid = true) ∨
    ((i = .refresh ∨ i = .clearDisplay) ∧ s.phase = .refreshing ∧ nextBusy s = false ∧ t.phase = .modeEnabled ∧
      t.active = false ∧ t.err = none ∧ t.mode = s.mode ∧ t.modeValid = true) := by
  obtain ⟨hp, hv, hmode⟩ := hstep.session_of_advance hs
  have hlast := hstep.ended_of_last hs
  have hinside := hstep.active_of_inside hs hf.active
  have hphase := hf.phase
  have hwait (hw : m = .wait) : nextBusy s = false := nextBusy_of_wait_advance (hw ▸ hs)
  rw [microProgram_length] at hlast hinside
  generalize s.ustep.toNat = k at *
  rcases session_positions i k s.phase s.modeValid s.mode with
    hkept | ⟨rfl, rfl⟩ | ⟨md, rfl, rfl⟩ | ⟨rfl, rfl⟩ | ⟨rfl, rfl | rfl⟩
  · obtain ⟨hp', hv', hmode'⟩ := hkept
    exact .inl ⟨hp.trans hp', hv.trans hv', hmode.trans hmode'⟩
  · obtain ⟨ha, he⟩ := hlast rfl
    exact .inr (.inl ⟨rfl, hphase, hp, ha, he, hv, hmode⟩)
  · obtain ⟨ha, he⟩ := hlast rfl
    exact .inr (.inr (.inl ⟨congrArg Instr.enableMode hmode.symm, sessionReady_iff.mp hphase, hp, ha, he, hv⟩))
  · obtain ⟨ha, he⟩ := hlast rfl
    have hvalid := hinv.modePhase.mp (.inr hphase)
    cases hm
    exact .inr (.inr (.inr (.inr ⟨.inl rfl, hphase, hwait rfl, hp, ha, he, hmode, hv.trans hvalid⟩)))
  · have hvalid := hinv.modePhase.mp (.inl hphase)
    exact .inr (.inr (.inr (.inl ⟨rfl, rfl, hphase, hp, hinside (by decide), hmode, hv.trans hvalid⟩)))
  · obtain ⟨ha, he⟩ := hlast rfl
    have hvalid := hinv.modePhase.mp (.inr hphase)
    cases hm
    exact .inr (.inr (.inr (.inr ⟨.inr rfl, hphase, hwait rfl, hp, ha, he, hmode, hv.trans hvalid⟩)))

/-! ### TRACE -/

/-- The events of a micro-operation (R140): a WAIT's Delay follows a busy sample that does not end it. -/
def MicroOp.events (m : MicroOp) (ended : Bool) (s : State) : List Event :=
  match m with
  | .cmd b => [.cmd b (nextBus s)]
  | .data bs => [.data bs (nextBus s)]
  | .rst v => [.rst v]
  | .delay d => [.delay d]
  | .wait => .busy (nextBusy s) :: (if nextBusy s = true ∧ ended = false then [.delay s.cfg.pay.tPoll] else [])

/-- Whether a micro-operation's outcome ends the WAIT it samples for. -/
def MicroOutcome.ended : MicroOutcome → Bool
  | .stay _ => false
  | .advance _ | .raised _ _ => true

theorem microStep_trace (m : MicroOp) (s : State) :
    (microStep m s).state.trace = s.trace ++ m.events (microStep m s).ended s := by
  have bus (ev : BusResult → Event) : (busStep ev s).state.trace = s.trace ++ [ev (nextBus s)] := by
    cases hb : nextBus s with
    | ok => simp [busStep_ok hb, MicroOutcome.state]
    | fail => simp [busStep_fail hb, MicroOutcome.state]
  cases m with
  | cmd b => exact bus _
  | data bs => exact bus _
  | wait =>
    have hw : microStep .wait s = waitStep s := rfl
    rcases waitStep_cases s with ⟨hb, he⟩ | ⟨hb, -, he⟩ | ⟨hb, -, he⟩ <;>
      simp [hw, he, MicroOutcome.state, MicroOutcome.ended, MicroOp.events, hb]
  | rst v => rfl
  | delay d => rfl

/-- The step of a WAIT leaves the operation in flight exactly when a busy sample did not end it. -/
theorem FlightStep.wait_active_iff {i : Instr} {s t u : State} (h : FlightStep i .wait s t u) (ha : s.active = true)
    (hb : nextBusy s = true) : t.active = true ↔ (microStep .wait s).ended = false := by
  have hu : u.active = true := by rw [h.frame.eq]; exact ha
  cases h with
  | stay hs ht => simp [hs, ht, hu, MicroOutcome.ended]
  | raised e hs ht => simp [hs, ht, MicroOutcome.ended]
  | complete hs | goesOn hs => exact absurd (hb.symm.trans (nextBusy_of_wait_advance hs)) Bool.true_eq_false_eq_False

/-! ### The window registers -/

/-- The state with other window registers. -/
def withWindow (x0 x1 y0 y1 : Half) (v : Bool) (s : State) : State :=
  { s with awXStart := x0, awXEnd := x1, awYStart := y0, awYEnd := y1, awValid := v }

@[simp] theorem withWindow_cfg (x0 x1 y0 y1 : Half) (v : Bool) (s : State) : (withWindow x0 x1 y0 y1 v s).cfg = s.cfg := rfl

/-- The states differ in the window registers only. -/
def SameButWindow (s s' : State) : Prop := ∃ x0 x1 y0 y1 v, s' = withWindow x0 x1 y0 y1 v s

/-- The outcome with its state changed. -/
def MicroOutcome.map (f : State → State) : MicroOutcome → MicroOutcome
  | .advance s => .advance (f s)
  | .stay s => .stay (f s)
  | .raised e s => .raised e (f s)

section window
variable (x0 x1 y0 y1 : Half) (v : Bool) (s : State)

theorem afterBus_withWindow : afterBus (withWindow x0 x1 y0 y1 v s) = withWindow x0 x1 y0 y1 v (afterBus s) := by
  cases h : s.busIn <;> simp [afterBus, withWindow, h]

theorem afterBusy_withWindow : afterBusy (withWindow x0 x1 y0 y1 v s) = withWindow x0 x1 y0 y1 v (afterBusy s) := by
  cases h : s.busyIn <;> simp [afterBusy, withWindow, h]

/-- A micro-operation reads no window register (R150). -/
theorem microStep_withWindow (m : MicroOp) :
    microStep m (withWindow x0 x1 y0 y1 v s) = (microStep m s).map (withWindow x0 x1 y0 y1 v) := by
  have bus (ev : BusResult → Event) :
      busStep ev (withWindow x0 x1 y0 y1 v s) = (busStep ev s).map (withWindow x0 x1 y0 y1 v) := by
    have hnext : nextBus (withWindow x0 x1 y0 y1 v s) = nextBus s := rfl
    cases hb : nextBus s with
    | ok => rw [busStep_ok hb, busStep_ok (hnext.trans hb), afterBus_withWindow]; rfl
    | fail => rw [busStep_fail hb, busStep_fail (hnext.trans hb), afterBus_withWindow]; rfl
  cases m with
  | cmd b => exact bus _
  | data bs => exact bus _
  | wait =>
    have hnext : nextBusy (withWindow x0 x1 y0 y1 v s) = nextBusy s := rfl
    have hw (s : State) : microStep .wait s = waitStep s := rfl
    rw [hw, hw]
    rcases waitStep_cases s with ⟨hb, he⟩ | ⟨hb, hn, he⟩ | ⟨hb, ⟨n, hc, hn⟩, he⟩ <;> rw [he]
    · rw [waitStep_clear (hnext.trans hb), afterBusy_withWindow]; rfl
    · rw [waitStep_busy (hnext.trans hb) hn, afterBusy_withWindow]; rfl
    · rw [waitStep_timeout (hnext.trans hb) hc hn, afterBusy_withWindow]; rfl
  | rst v => rfl
  | delay d => rfl

end window

section sameButWindow
variable {s s' : State} (h : SameButWindow s s')
include h

theorem SameButWindow.raise (e : ErrKind) : SameButWindow (raise e s) (raise e s') := by
  obtain ⟨x0, x1, y0, y1, v, rfl⟩ := h
  cases e <;> exact ⟨_, _, _, _, _, rfl⟩

theorem SameButWindow.finish : SameButWindow (finish s) (finish s') := by
  obtain ⟨x0, x1, y0, y1, v, rfl⟩ := h
  exact ⟨_, _, _, _, _, rfl⟩

theorem SameButWindow.acceptOf (i : Instr) : SameButWindow (startOp (acceptOf i s)) (startOp (acceptOf i s')) := by
  obtain ⟨x0, x1, y0, y1, v, rfl⟩ := h
  cases i <;> exact ⟨_, _, _, _, _, rfl⟩

theorem SameButWindow.afterOf (i : Instr) (k : Nat) : SameButWindow (afterOf i k s) (afterOf i k s') := by
  obtain ⟨x0, x1, y0, y1, v, rfl⟩ := h
  rw [afterOf_eq, afterOf_eq i k (withWindow x0 x1 y0 y1 v s), withWindow_cfg]
  cases windowAfter i k s.cfg <;> cases borderAfter i k s.cfg <;> exact ⟨_, _, _, _, _, rfl⟩

theorem SameButWindow.fbuResult (i : Instr) : SameButWindow (fbuResult i s) (fbuResult i s') := by
  obtain ⟨x0, x1, y0, y1, v, rfl⟩ := h
  have hbyte : fbuByte i (withWindow x0 x1 y0 y1 v s) = fbuByte i s := fbuByte_congr i rfl rfl
  unfold Machine.fbuResult
  rw [hbyte]
  split <;> exact ⟨_, _, _, _, _, rfl⟩

theorem SameButWindow.microStep {m : MicroOp} {o : MicroOutcome} (hm : microStep m s = o) :
    ∃ f : State → State, Machine.microStep m s' = o.map f ∧ ∀ u, SameButWindow u (f u) := by
  obtain ⟨x0, x1, y0, y1, v, rfl⟩ := h
  exact ⟨_, hm ▸ microStep_withWindow x0 x1 y0 y1 v s m, fun u => ⟨x0, x1, y0, y1, v, rfl⟩⟩

/-- An operation answers states that differ in the window registers only (R30, R150). -/
theorem SameButWindow.exec {i : Instr} {t : State} (hx : exec i s = .next t) :
    ∃ t', Machine.exec i s' = .next t' ∧ SameButWindow t t' := by
  have hsame := h
  obtain ⟨x0, x1, y0, y1, v, hs'⟩ := h
  have hprog : microProgram i s' = microProgram i s := microProgram_congr i (by rw [hs']; rfl) (by rw [hs']; rfl)
    (by rw [hs']; rfl) (by rw [hs']; rfl)
  have hissued : s'.issued = s.issued := by rw [hs']; rfl
  have hphase : s'.phase = s.phase := by rw [hs']; rfl
  have hcfg : s'.cfg = s.cfg := by rw [hs']; rfl
  have hustep : s'.ustep = s.ustep := by rw [hs']; rfl
  cases hi : isDriver i with
  | false =>
    rw [exec_framebuffer hi] at hx
    cases hx
    exact ⟨_, exec_framebuffer hi s', hsame.fbuResult i⟩
  | true =>
    cases hs : s.issued with
    | some d =>
      have hd : s'.issued = some d := hissued.trans hs
      cases checkStep_of_exec hi hs hx with
      | badPhase hp ht => exact ⟨_, exec_of_phaseInvalid hd (hphase ▸ hp), ht ▸ hsame.raise _⟩
      | badGeometry hp hg ht => exact ⟨_, exec_of_geometryInvalid hd (hphase ▸ hp) (hcfg ▸ hg), ht ▸ hsame.raise _⟩
      | started hp hg ht => exact ⟨_, exec_of_checked hd hi (hphase ▸ hp) (hcfg ▸ hg), ht ▸ hsame.acceptOf i⟩
    | none =>
      rw [exec_inFlight hi (hissued.trans hs), hprog]
      obtain ⟨m, u, hm, hstep⟩ := flightStep_of_exec hi hs hx
      rw [← hustep] at hm
      have hnext {u u' : State} (hu : SameButWindow u u') : SameButWindow
          (Machine.afterOf i s.ustep.toNat { u with ustep := u.ustep + 1 })
          (Machine.afterOf i s'.ustep.toNat { u' with ustep := u'.ustep + 1 }) := by
        rw [hustep]
        obtain ⟨a, b, c, d, w, rfl⟩ := hu
        exact SameButWindow.afterOf ⟨a, b, c, d, w, rfl⟩ i _
      cases hstep with
      | stay hms ht =>
        obtain ⟨f, hf, hu⟩ := hsame.microStep hms
        exact ⟨_, runMicro_stay hm hf, ht ▸ hu u⟩
      | raised e hms ht =>
        obtain ⟨f, hf, hu⟩ := hsame.microStep hms
        exact ⟨_, runMicro_raised hm hf, ht ▸ (hu u).raise e⟩
      | complete hms hk ht =>
        obtain ⟨f, hf, hu⟩ := hsame.microStep hms
        exact ⟨_, runMicro_complete hm hf (hustep ▸ hk), ht ▸ (hnext (hu u)).finish⟩
      | goesOn hms hk ht =>
        obtain ⟨f, hf, hu⟩ := hsame.microStep hms
        exact ⟨_, runMicro_advance hm hf (hustep ▸ hk.ne), ht ▸ hnext (hu u)⟩

end sameButWindow

end Sys2Proof.Machine

namespace Sys2Proof
open Machine

/-! ### The obligations -/

/-- Settles O48: `SameButWindow` is kept by every part of a step. -/
theorem windowRegistersSteerNothing : Obligations.WindowRegistersSteerNothing := by
  unfold Obligations.WindowRegistersSteerNothing
  intro i s t x0 x1 y0 y1 v hx
  obtain ⟨t', hx', x0', x1', y0', y1', v', rfl⟩ := SameButWindow.exec ⟨x0, x1, y0, y1, v, rfl⟩ hx
  exact ⟨_, hx', rfl⟩

/-- Settles O51: the micro-operation raised (`exec_runTimeError`), which leaves the session Uninitialized, where only INITIALIZE
passes the phase check. -/
theorem runTimeErrorNeedsANewInitialize : Obligations.RunTimeErrorNeedsANewInitialize := by
  unfold Obligations.RunTimeErrorNeedsANewInitialize
  intro i s t e h0 hx ht he
  have hrun := isRunTime_iff.mpr he
  obtain ⟨hi, hs, m, u, hm, hframe, rfl⟩ := exec_runTimeError h0 hx ht hrun
  have hcause := microStep_raised_cases hm
  refine ⟨hi, hs, raise_active .., by rw [raise_ustep, hframe.eq], by simp [hrun], by simp [hrun], by simp [hrun],
    by simp [hrun], fun hte => ?_, fun hbt => ?_, fun d j hd hj => ⟨fun hinit => ?_, fun hne => ?_⟩⟩
  · rcases hcause with ⟨-, hb⟩ | ⟨hbt, -⟩
    · exact hb
    · cases hte.symm.trans hbt
  · rcases hcause with ⟨hte, -⟩ | ⟨-, hb, hn⟩
    · cases hbt.symm.trans hte
    · exact ⟨hb, hn⟩
  · subst hinit
    exact exec_of_checked rfl rfl (fresh_iff.mpr (by simp [hrun])) rfl
  · have hphase : phaseValidFor j (accept d (raise e u)).phase = false := by
      rw [accept_phase, raise_phase, if_pos hrun]
      exact phaseValidFor_uninitialized hj hne
    rw [exec_of_phaseInvalid rfl hphase, raise_of_isRunTime_false rfl]
    simp [accept]

/-- Settles O54: `FlightStep.resetOut_eq`, and the two pulses of the micro-programs (`pulse_of_getElem?`). -/
theorem resetOutputIsDrivenOnlyByRst : Obligations.ResetOutputIsDrivenOnlyByRst := by
  unfold Obligations.ResetOutputIsDrivenOnlyByRst
  intro s t hr h
  rcases step_cases h with ⟨hr', -⟩ | ⟨-, ha, ⟨i, hc, hx⟩ | ⟨why, -, rfl⟩⟩ | ⟨-, -, ⟨-, rfl⟩ | ⟨act, q, -, rfl⟩⟩
  · exact absurd (hr.symm.trans hr') Bool.false_ne_true
  · cases hi : isDriver i with
    | false =>
      rw [exec_framebuffer hi] at hx
      cases hx
      exact .inl (by rw [fbuResult_frame])
    | true =>
      cases hs : s.issued with
      | some d =>
        cases checkStep_of_exec hi hs hx with
        | badPhase _ ht | badGeometry _ _ ht => exact .inl (by rw [ht, raise_resetOut])
        | started _ _ ht => exact .inl (by rw [ht, startOp_resetOut, acceptOf_frame])
      | none =>
        obtain ⟨m, u, hm, hstep⟩ := flightStep_of_exec hi hs hx
        have hout := hstep.resetOut_eq
        cases m with
        | rst v =>
          obtain rfl : t.resetOut = v := hout
          have hinit : i = .init := by
            have hp := pulse_of_getElem? hm
            by_contra hne
            simp [MicroOp.pulse, hne] at hp
          subst hinit
          exact .inr ⟨⟨ha, hs, rfl, hm⟩, (current_of_checked hs).symm.trans hc⟩
        | cmd | data | wait | delay => exact .inl hout
  · exact .inl (raise_resetOut ..)
  · exact .inl rfl
  · refine .inl ?_
    rcases hostAct_cases act { s with hostQueue := q } with ⟨a, v, -, he⟩ | ⟨d, -, -, he⟩ | ⟨d, -, he⟩ <;> rw [he] <;> rfl

/-- Settles O53: the events of the micro-operation at `USTEP` (`microStep_trace`); no other step emits. -/
theorem traceGrowsByMicroOperationsOnly : Obligations.TraceGrowsByMicroOperationsOnly := by
  unfold Obligations.TraceGrowsByMicroOperationsOnly
  intro s t hinv hr h
  rcases step_cases h with ⟨hr', -⟩ | ⟨-, ha, hop⟩ | ⟨-, ha, hidle⟩
  · exact absurd (hr.symm.trans hr') Bool.false_ne_true
  · have hnot : ¬ s.active = false := by simp [ha]
    cases hs : s.issued with
    | some d =>
      refine ⟨fun _ => ?_, nofun⟩
      rcases hop with ⟨i, -, hx⟩ | ⟨why, -, rfl⟩
      · cases hi : isDriver i with
        | false => rw [exec_framebuffer hi] at hx; cases hx; rw [fbuResult_frame]
        | true =>
          cases checkStep_of_exec hi hs hx with
          | badPhase _ ht | badGeometry _ _ ht => rw [ht, raise_trace]
          | started _ _ ht => rw [ht, startOp_trace, acceptOf_frame]
      · exact raise_trace ..
    | none =>
      refine ⟨fun hno => hno.elim (absurd · hnot) (absurd rfl ·), fun _ _ => ?_⟩
      obtain ⟨i, hcur, hf⟩ := hinv.current_flight ha hs
      rcases hop with ⟨j, hj, hx⟩ | ⟨why, hwhy, -⟩
      · cases hcur.symm.trans hj
        obtain ⟨m, u, hm, hstep⟩ := flightStep_of_exec hf.driver hs hx
        have htrace : t.trace = s.trace ++ m.events (microStep m s).ended s := by
          rw [hstep.trace_eq, ← hstep.state_eq, microStep_trace]
        refine ⟨i, m, ⟨ha, hs, hf.driver, hm⟩, hf.latched, ?_⟩
        cases m with
        | cmd b => exact .inl ⟨b, rfl, htrace⟩
        | data bs => exact .inr (.inl ⟨bs, rfl, htrace⟩)
        | rst v => exact .inr (.inr (.inl ⟨v, rfl, htrace⟩))
        | delay d => exact .inr (.inr (.inr (.inl ⟨d, rfl, htrace⟩)))
        | wait =>
          refine .inr (.inr (.inr (.inr ⟨rfl, htrace.trans ?_⟩)))
          cases hb : nextBusy s with
          | false => simp [MicroOp.events, hb]
          | true => simp [MicroOp.events, hb, hstep.wait_active_iff ha hb]
      · cases hcur.symm.trans hwhy
  · refine ⟨fun _ => ?_, fun ha' => absurd (ha.symm.trans ha') Bool.false_ne_true⟩
    rcases hidle with ⟨-, rfl⟩ | ⟨act, q, -, rfl⟩
    · rfl
    · rcases hostAct_cases act { s with hostQueue := q } with ⟨a, v, -, he⟩ | ⟨d, -, -, he⟩ | ⟨d, -, he⟩ <;> rw [he] <;> rfl

/-- Settles O52, by the kind of step; in flight by the positions that change the phase (`session_positions`). -/
theorem phaseChangesOnlyAsTheTableSays : Obligations.PhaseChangesOnlyAsTheTableSays := by
  unfold Obligations.PhaseChangesOnlyAsTheTableSays
  intro s t hinv hr h
  rcases step_cases h with ⟨hr', -⟩ | ⟨-, ha, ⟨i, hc, hx⟩ | ⟨why, -, rfl⟩⟩ | ⟨-, -, ⟨-, rfl⟩ | ⟨act, q, -, rfl⟩⟩
  · exact absurd (hr.symm.trans hr') Bool.false_ne_true
  · cases hi : isDriver i with
    | false =>
      rw [exec_framebuffer hi] at hx
      cases hx
      rw [fbuResult_frame]
      exact .inl ⟨rfl, rfl, rfl⟩
    | true =>
      cases hs : s.issued with
      | some d =>
        have hd : decode d = .op i := (current_of_issued hs).symm.trans hc
        cases checkStep_of_exec hi hs hx with
        | badPhase _ ht | badGeometry _ _ ht => rw [ht]; exact .inl (sessionKept_raise rfl s)
        | started hp _ ht =>
          subst ht
          cases i with
          | clearAll | clearRegion | blit => cases hi
          | setAddressWindow | enableMode | transfer | setBorder | clearDisplay => exact .inl ⟨rfl, rfl, rfl⟩
          | init => exact .inr (.inl ⟨fresh_iff.mp hp, ha, ⟨d, rfl, hd⟩, rfl, ha, rfl, rfl⟩)
          | refresh =>
            have hphase := hasMode_iff.mp hp
            have hvalid := hinv.modePhase.mp (.inl hphase)
            exact .inr (.inr (.inr (.inr (.inl ⟨hphase, ha, .inl ⟨d, rfl, hd⟩, rfl, ha, rfl, hvalid⟩))))
      | none =>
        obtain ⟨j, hj, hf⟩ := hinv.current_flight ha hs
        cases hc.symm.trans hj
        obtain ⟨m, u, hm, hstep⟩ := flightStep_of_exec hi hs hx
        have hframe := hstep.frame.eq
        have hd := hf.latched
        have hadvance := session_of_advance_cases hinv hf hm hstep
        cases hstep with
        | stay _ ht => rw [ht, hframe]; exact .inl ⟨rfl, rfl, rfl⟩
        | raised e hms ht =>
          have hrun := microStep_raised_isRunTime hms
          have hmode : t.mode = s.mode := by rw [ht, raise_mode, hframe]
          refine .inr (.inr (.inr (.inr (.inr (.inr ⟨ha, ?_, ?_, ?_, hmode, ?_⟩))))) <;> rw [ht]
          · rw [raise_phase, if_pos hrun]
          · exact raise_active ..
          · rw [raise_modeValid, if_pos hrun]
          · rw [raise_err]
            exact (isRunTime_iff.mp hrun).imp (congrArg some) (congrArg some)
        | complete hms | goesOn hms =>
          rcases hadvance hms with hkept | ⟨rfl, hp, hrest⟩ | ⟨hmode, hp, hrest⟩ | ⟨rfl, hk, hp, hrest⟩ |
            ⟨rfl | rfl, hp, hb, hrest⟩
          · exact .inl hkept
          · exact .inr (.inr (.inl ⟨hp, ha, hd, hrest⟩))
          · exact .inr (.inr (.inr (.inl ⟨hp, ha, hmode ▸ hd, hrest⟩)))
          · exact .inr (.inr (.inr (.inr (.inl ⟨hp, ha, .inr ⟨rfl, hd, BitVec.eq_of_toNat_eq hk⟩, hrest⟩))))
          · exact .inr (.inr (.inr (.inr (.inr (.inl ⟨hp, ha, hb, .inl hd, hrest⟩)))))
          · exact .inr (.inr (.inr (.inr (.inr (.inl ⟨hp, ha, hb, .inr hd, hrest⟩)))))
  · exact .inl (sessionKept_raise rfl s)
  · exact .inl ⟨rfl, rfl, rfl⟩
  · exact .inl (sessionKept_hostAct act _)

end Sys2Proof
end

section
/-! PROOFS of the host's ports (spec/10_state.md R24 to R34, R38) and of the words of spec/95_test_vectors.md: the layouts the
registers share, then the registers of a state. -/

namespace Sys2Proof.Machine

/-! ### Layouts -/

/-- A bit below a three-bit field (R26). -/
theorem bit_below_code : ∀ (b : BitVec 1) (c : BitVec 3),
    (b.setWidth 32 ||| c.setWidth 32 <<< 1).getLsbD 0 = b.getLsbD 0 ∧
    (b.setWidth 32 ||| c.setWidth 32 <<< 1).extractLsb' 1 3 = c ∧
    (b.setWidth 32 ||| c.setWidth 32 <<< 1).extractLsb' 4 28 = 0#28 := by decide

/-- A bit below a valid bit (R28, R29). -/
theorem bit_below_valid : ∀ (b : BitVec 1) (v : Bool),
    (b.setWidth 32 ||| (BitVec.ofBool v).setWidth 32 <<< 1).getLsbD 0 = b.getLsbD 0 ∧
    (b.setWidth 32 ||| (BitVec.ofBool v).setWidth 32 <<< 1).getLsbD 1 = v ∧
    (b.setWidth 32 ||| (BitVec.ofBool v).setWidth 32 <<< 1).extractLsb' 2 30 = 0#30 := by decide

/-- Two 16-bit fields (R30): the layout of a descriptor's operand words. -/
theorem halves_of_word (lo hi : Half) :
    (lo.setWidth 32 ||| hi.setWidth 32 <<< 16).extractLsb' 0 16 = lo ∧
    (lo.setWidth 32 ||| hi.setWidth 32 <<< 16).extractLsb' 16 16 = hi :=
  ⟨pack_a0 0 false lo hi 0 0 0 0, pack_a1 0 false lo hi 0 0 0 0⟩

/-- A single bit in a register of its own (R30). -/
theorem bit_alone : ∀ v : Bool, ((BitVec.ofBool v).setWidth 32).getLsbD 0 = v ∧
    ((BitVec.ofBool v).setWidth 32).extractLsb' 1 31 = 0#31 := by decide

/-- A byte in a register of its own (R33). -/
theorem byte_alone (b : Byte) : (b.setWidth 32).extractLsb' 0 8 = b ∧ (b.setWidth 32).extractLsb' 8 24 = 0#24 := by
  refine ⟨by simp [BitVec.extractLsb'_setWidth_of_le], BitVec.eq_of_getLsbD_eq fun i _ => ?_⟩
  simp

theorem modeBit_iff (m : Mode) : (modeBit m).getLsbD 0 = true ↔ m = .mode2 := by
  cases m <;> decide

/-! ### The framebuffer port -/

/-- The image a TRANSFER sends, byte by byte (R103). -/
theorem fbImage_getElem? (s : State) (a : Nat) :
    (fbImage s)[a]? = if a < s.cfg.fbSize then some (readFb s a) else none := by
  split
  · simp [fbImage, *]
  · simp [fbImage, *]

end Sys2Proof.Machine

namespace Sys2Proof
open Machine

/-! ### The obligations -/

/-- Settles O55, register by register, by its layout. -/
theorem hostRegisterFields : Obligations.HostRegisterFields := by
  unfold Obligations.HostRegisterFields
  intro s
  refine ⟨?_, ?_, ⟨?_, fun hv => ?_, ?_⟩, ⟨?_, fun hv => ?_, ?_⟩, fun hv => ?_, bit_alone s.awValid,
    byte_alone s.ustep, fun n hn => ?_⟩
  · obtain ⟨hact, herr, hzero⟩ := bit_below_code (BitVec.ofBool s.active) (errCode s.err)
    refine ⟨hact.trans (by simp), herr.trans ?_, hzero⟩
    rcases s.err with _ | e
    · rfl
    · cases e <;> rfl
  · show ((phaseCode s.phase).setWidth 32).toNat = _
    cases s.phase <;> rfl
  · exact (bit_below_valid _ s.modeValid).2.1
  · have hbit : (hostRead s 2).getLsbD 0 = _ := (bit_below_valid _ s.modeValid).1
    rw [hbit, if_pos hv]
    exact modeBit_iff s.mode
  · exact (bit_below_valid _ s.modeValid).2.2
  · exact (bit_below_valid _ s.borderValid).2.1
  · have hbit : (hostRead s 3).getLsbD 0 = _ := (bit_below_valid _ s.borderValid).1
    rw [hbit, if_pos hv]
    simp
  · exact (bit_below_valid _ s.borderValid).2.2
  · have hx : hostRead s 4 = s.awXStart.setWidth 32 ||| s.awXEnd.setWidth 32 <<< 16 := if_pos hv
    have hy : hostRead s 5 = s.awYStart.setWidth 32 ||| s.awYEnd.setWidth 32 <<< 16 := if_pos hv
    obtain ⟨hx0, hx1⟩ := halves_of_word s.awXStart s.awXEnd
    obtain ⟨hy0, hy1⟩ := halves_of_word s.awYStart s.awYEnd
    rw [hx, hy]
    exact ⟨hx0, hx1, hy0, hy1⟩
  · obtain ⟨k, rfl⟩ := Nat.exists_eq_add_of_le' hn
    rfl

/-- Settles O56: the port answers the byte of the image (`fbImage_getElem?`) while the block is idle. -/
theorem framebufferReadPort : Obligations.FramebufferReadPort := by
  unfold Obligations.FramebufferReadPort
  intro s a
  refine ⟨fun ha hlt => if_pos ⟨ha, hlt⟩, fun ha => ?_, fun hno => if_neg ?_⟩
  · rw [fbImage_getElem?, hostReadFb]
    simp [ha]
  · rintro ⟨ha, hlt⟩
    rcases hno with hact | hle
    · exact absurd (ha.symm.trans hact) Bool.false_ne_true
    · omega

/-- Settles O6: the decoder runs on each word. -/
theorem wordsOfTheTableDecode : Obligations.WordsOfTheTableDecode := by
  unfold Obligations.WordsOfTheTableDecode
  decide

/-- Settles O13: the registers of `State.reset`, and the ports of the four that read as 0. -/
theorem resetStateHasTheStatedValues : Obligations.ResetStateHasTheStatedValues :=
  ⟨rfl, rfl, rfl, rfl, rfl, rfl, rfl, rfl, rfl, rfl, rfl, rfl, rfl⟩

end Sys2Proof
end

section
/-! PROOFS of the runs from accept to the end (spec/42_driver_ops.md R160 to R168, R171): accept and the checks, then the
micro-program position by position, transactions in a row, a WAIT with its busy samples, and the completion. -/

namespace Sys2Proof.Machine

/-! ### An operation at a position of its micro-program -/

/-- Operation `i` runs at position `k`, `todo` being the rest of its micro-program, no WAIT begun. -/
structure RunningAt (i : Instr) (k : Nat) (todo : List MicroOp) (s : State) : Prop where
  active   : s.active = true
  checked  : s.issued = none
  noReset  : s.resetIn = false
  driver   : isDriver i = true
  latched  : decode (operandDescriptor s) = .op i
  polls    : s.polls = 0
  position : s.ustep = BitVec.ofNat 8 k
  rest     : (microProgram i s).drop k = todo

/-- In `n` steps from `s` the machine comes to the step that executes `m`, whose success leaves `u`. -/
structure Executes (i : Instr) (m : MicroOp) (n : Nat) (s u : State) : Prop where
  reaches : ∃ v, runFor n s = .next v ∧ StepsAt i m v ∧ microStep m v = .advance u ∧ v.ustep = s.ustep ∧
    microProgram i v = microProgram i s
  frame   : SameButMicro s u
  polls   : u.polls = 0

/-- Only the completion of ENABLE_MODE writes `MODE` (R37). -/
theorem modeAfter_of_inside {i : Instr} {k : Nat} {s : State} (hk : k + 1 < (microProgram i s).length) (md : Mode) :
    modeAfter i k md = md := by
  cases i with
  | enableMode m =>
    simp only [microProgram_length] at hk
    exact if_neg (by omega)
  | _ => rfl

/-- The state after the success of position `k`, `u` being what its micro-operation leaves. -/
def succeeded (i : Instr) (k : Nat) (u : State) : State := afterOf i k { u with ustep := BitVec.ofNat 8 (k + 1) }

section running
variable {i : Instr} {m m' : MicroOp} {todo : List MicroOp} {s u : State} {k n : Nat}

theorem RunningAt.length (h : RunningAt i k (m :: todo) s) : k + 1 + todo.length = (microProgram i s).length := by
  have hlen := congrArg List.length h.rest
  simp only [List.length_drop, List.length_cons] at hlen
  omega

theorem RunningAt.ustep_toNat (h : RunningAt i k (m :: todo) s) : s.ustep.toNat = k := by
  have hlen := h.length
  have hle := microProgram_length_le i s
  rw [h.position, BitVec.toNat_ofNat, Nat.mod_eq_of_lt (by omega)]

theorem RunningAt.next (h : RunningAt i k (m :: todo) s) : (microProgram i s)[s.ustep.toNat]? = some m := by
  have hdrop := congrArg (·[0]?) h.rest
  simpa [List.getElem?_drop, h.ustep_toNat] using hdrop

theorem RunningAt.stepsAt (h : RunningAt i k (m :: todo) s) : StepsAt i m s :=
  ⟨⟨h.active, h.checked, h.driver, h.next⟩, (current_of_checked h.checked).trans h.latched, h.noReset⟩

/-- The step that executes the micro-operation goes on or completes the operation. -/
theorem RunningAt.exec_cases (h : RunningAt i k (m :: todo) s) (hx : Executes i m n s u) :
    (todo ≠ [] ∧ runFor (n + 1) s = .next (succeeded i k u)) ∨
    (todo = [] ∧ runFor (n + 1) s = .next (finish (succeeded i k u))) := by
  obtain ⟨⟨v, hrun, hat, hstep, hustep, hprog⟩, hframe, -⟩ := hx
  have hlen := h.length
  have hk := h.ustep_toNat
  have hu : u.ustep + 1 = BitVec.ofNat 8 (k + 1) := by
    rw [hframe.eq, BitVec.ofNat_add, ← h.position]
    rfl
  have hrun' {t : State} (hx : exec i v = .next t) : runFor (n + 1) s = .next t := by
    rw [runFor_add hrun 1, runFor_succ (hat.step_eq.trans hx), runFor_zero]
  have hcases := exec_of_advance hat.inFlight hstep
  rw [hustep, hk, hprog, hu] at hcases
  rcases hcases with ⟨hlt, hx⟩ | ⟨hlast, hx⟩
  · refine .inl ⟨fun hnil => ?_, hrun' hx⟩
    rw [hnil, List.length_nil] at hlen
    omega
  · exact .inr ⟨List.eq_nil_of_length_eq_zero (by omega), hrun' hx⟩

/-- The operation goes on to its next position. -/
theorem RunningAt.runFor_inside (h : RunningAt i k (m :: m' :: todo) s) (hx : Executes i m n s u) :
    runFor (n + 1) s = .next (succeeded i k u) ∧ RunningAt i (k + 1) (m' :: todo) (succeeded i k u) := by
  refine ⟨(h.exec_cases hx).elim And.right fun hnil => absurd hnil.1 (List.cons_ne_nil _ _), ?_⟩
  have hinside : k + 1 < (microProgram i s).length := by
    have hlen := h.length
    rw [List.length_cons] at hlen
    omega
  have hu := hx.frame.eq
  have hsame : microProgram i (succeeded i k u) = microProgram i s := by
    unfold succeeded
    apply microProgram_congr
    · rw [afterOf_cfg, hu]
    · rw [afterOf_mode, modeAfter_of_inside hinside, hu]
    · rw [afterOf_frame, hu]
    · rw [afterOf_frame, hu]
  constructor
  case active => rw [succeeded, afterOf_active, hu]; exact h.active
  case checked => rw [succeeded, afterOf_issued, hu]; exact h.checked
  case noReset => rw [succeeded, afterOf_resetIn, hu]; exact h.noReset
  case driver => exact h.driver
  case latched => rw [succeeded, afterOf_operandDescriptor, hu]; exact h.latched
  case polls => rw [succeeded, afterOf_polls]; exact hx.polls
  case position => rw [succeeded, afterOf_ustep]
  case rest => rw [hsame, ← List.drop_drop, h.rest]; rfl

/-- The last micro-operation completes the operation. -/
theorem RunningAt.runFor_last (h : RunningAt i k [m] s) (hx : Executes i m n s u) :
    runFor (n + 1) s = .next (finish (succeeded i k u)) :=
  (h.exec_cases hx).elim (fun hne => absurd rfl hne.1) And.right

end running

/-! ### What executes a micro-operation -/

/-- The event of a micro-operation that succeeds at its first try. -/
def MicroOp.okEvent : MicroOp → Event
  | .cmd b => .cmd b .ok
  | .data bs => .data bs .ok
  | .rst v => .rst v
  | .delay t => .delay t
  | .wait => .busy false

section executes
variable {i : Instr} {k : Nat} {m : MicroOp} {todo : List MicroOp} {s : State}

/-- A transaction answered ok. -/
theorem RunningAt.transaction (h : RunningAt i k (m :: todo) s) (ht : m.transaction.isSome = true)
    {bus : List BusResult} (hb : s.busIn = .ok :: bus) :
    Executes i m 0 s { s with busIn := bus, trace := s.trace ++ [m.okEvent] } := by
  obtain ⟨hok, hafter⟩ := afterBus_cons hb
  refine ⟨⟨s, rfl, h.stepsAt, ?_, rfl, rfl⟩, ⟨rfl⟩, h.polls⟩
  cases m with
  | cmd b => exact (busStep_ok hok _).trans (by rw [hafter]; rfl)
  | data bs => exact (busStep_ok hok _).trans (by rw [hafter]; rfl)
  | wait | rst | delay => cases ht

theorem RunningAt.rst {v : Bool} (h : RunningAt i k (.rst v :: todo) s) :
    Executes i (.rst v) 0 s { s with resetOut := v, trace := s.trace ++ [.rst v] } :=
  ⟨⟨s, rfl, h.stepsAt, rfl, rfl, rfl⟩, ⟨rfl⟩, h.polls⟩

theorem RunningAt.delay {t : Nat} (h : RunningAt i k (.delay t :: todo) s) :
    Executes i (.delay t) 0 s { s with trace := s.trace ++ [.delay t] } :=
  ⟨⟨s, rfl, h.stepsAt, rfl, rfl, rfl⟩, ⟨rfl⟩, h.polls⟩

/-- The state after a WAIT that found busy asserted `n` times, then clear. -/
def waited (n : Nat) (busy : List Bool) (s : State) : State :=
  { s with busyIn := busy, trace := s.trace ++ busyEvents s.cfg n ++ [.busy false] }

theorem RunningAt.wait (h : RunningAt i k (.wait :: todo) s) {n : Nat} {busy : List Bool}
    (hb : s.busyIn = List.replicate n true ++ false :: busy) (hn : WaitOutlasts s.cfg n) :
    Executes i .wait n s (waited n busy s) := by
  have hrun := runFor_busy h.stepsAt hb (by rw [h.polls, Nat.zero_add]; exact hn)
  have hlast := stepsAt_stillBusy h.stepsAt n (false :: busy)
  obtain ⟨hclear, hafter⟩ := afterBusy_cons (s := stillBusy n (false :: busy) s) rfl
  refine ⟨⟨_, hrun, hlast, ?_, rfl, microProgram_stillBusy i n _ s⟩, ⟨rfl⟩, h.polls⟩
  refine (waitStep_clear hclear).trans ?_
  have hpolls : pollsCleared (stillBusy n (false :: busy) s) = s.polls := by
    cases hc : s.cfg.busyTimeoutPolls <;> simp [pollsCleared, pollsAfter, stillBusy, hc, h.polls]
  rw [hafter, hpolls]
  rfl

/-- What is not a transaction attaches nothing inside its program. -/
theorem RunningAt.runFor_plain {x : MicroOp} {u : State} {n : Nat} (h : RunningAt i k (x :: m :: todo) s)
    (ht : x.transaction = none) (hx : Executes i x n s u) :
    runFor (n + 1) s = .next { u with ustep := BitVec.ofNat 8 (k + 1) } ∧
    RunningAt i (k + 1) (m :: todo) { u with ustep := BitVec.ofNat 8 (k + 1) } := by
  have hinside : k + 1 < (microProgram i s).length := by
    have hlen := h.length
    rw [List.length_cons] at hlen
    omega
  have hnext := h.next
  rw [h.ustep_toNat] at hnext
  have hafter : succeeded i k u = _ :=
    (afterOf_of_noTransaction hnext ht { u with ustep := BitVec.ofNat 8 (k + 1) }).2 hinside
  have hrun := h.runFor_inside hx
  rwa [hafter] at hrun

end executes

/-! ### Transactions in a row -/

/-- What is attached to `n` positions in a row, from `k` on. -/
def attached (i : Instr) : Nat → Nat → State → State
  | _, 0, s => s
  | k, n + 1, s => attached i (k + 1) n (afterOf i k s)

/-- The state with answers consumed, events added and `USTEP` moved on. -/
def progressed (bus : List BusResult) (tr : List Event) (u : BitVec 8) (s : State) : State :=
  { s with busIn := bus, trace := tr, ustep := u }

@[simp] theorem progressed_cfg (bus : List BusResult) (tr : List Event) (u : BitVec 8) (s : State) :
    (progressed bus tr u s).cfg = s.cfg := rfl

theorem afterOf_progressed (i : Instr) (k : Nat) (bus : List BusResult) (tr : List Event) (u : BitVec 8) (s : State) :
    afterOf i k (progressed bus tr u s) = progressed bus tr u (afterOf i k s) := by
  rw [afterOf_eq, afterOf_eq i k s, progressed_cfg]
  cases windowAfter i k s.cfg <;> cases borderAfter i k s.cfg <;> rfl

theorem attached_progressed (i : Instr) (k n : Nat) (bus : List BusResult) (tr : List Event) (u : BitVec 8) (s : State) :
    attached i k n (progressed bus tr u s) = progressed bus tr u (attached i k n s) := by
  induction n generalizing k s with
  | zero => rfl
  | succ n ih => rw [attached, afterOf_progressed, ih, attached]

/-- The state after the transactions `ms` in a row from position `k` on, all answered ok. -/
def transacted (i : Instr) (k : Nat) (ms : List MicroOp) (bus : List BusResult) (s : State) : State :=
  progressed bus (s.trace ++ ms.map MicroOp.okEvent) (BitVec.ofNat 8 (k + ms.length)) (attached i k ms.length s)

/-- One transaction, then a row of them. -/
theorem transacted_cons (i : Instr) (k : Nat) (x : MicroOp) (xs : List MicroOp) (bus bus' : List BusResult) (s : State) :
    transacted i (k + 1) xs bus (transacted i k [x] bus' s) = transacted i k (x :: xs) bus s := by
  have htrace : (s.trace ++ [x.okEvent]) ++ xs.map MicroOp.okEvent = s.trace ++ (x :: xs).map MicroOp.okEvent := by
    rw [List.append_assoc]
    rfl
  have hustep : k + 1 + xs.length = k + (x :: xs).length := by
    rw [List.length_cons]
    omega
  show progressed bus ((s.trace ++ [x.okEvent]) ++ xs.map MicroOp.okEvent) (BitVec.ofNat 8 (k + 1 + xs.length))
    (attached i (k + 1) xs.length
      (progressed bus' (s.trace ++ [x.okEvent]) (BitVec.ofNat 8 (k + 1)) (afterOf i k s))) = _
  rw [htrace, hustep, attached_progressed]
  rfl

section transactions
variable {i : Instr} {k : Nat} {m : MicroOp} {todo : List MicroOp} {s : State} {bus : List BusResult}

theorem transacted_singleton (i : Instr) (k : Nat) (x : MicroOp) (bus : List BusResult) (s : State) :
    transacted i k [x] bus s = succeeded i k { s with busIn := bus, trace := s.trace ++ [x.okEvent] } :=
  (afterOf_progressed ..).symm

/-- One transaction, with a position after it. -/
theorem RunningAt.runFor_transaction {x : MicroOp} (h : RunningAt i k (x :: m :: todo) s)
    (ht : x.transaction.isSome = true) (hb : s.busIn = .ok :: bus) :
    runFor 1 s = .next (transacted i k [x] bus s) ∧ RunningAt i (k + 1) (m :: todo) (transacted i k [x] bus s) := by
  rw [transacted_singleton]
  exact h.runFor_inside (h.transaction ht hb)

theorem RunningAt.transacted_nil (h : RunningAt i k todo s) (hb : s.busIn = bus) : transacted i k [] bus s = s := by
  subst hb
  unfold transacted
  rw [List.map_nil, List.append_nil, List.length_nil, Nat.add_zero, ← h.position]
  rfl

/-- A row of transactions, with a position after it. -/
theorem RunningAt.runFor_transactions (ms : List MicroOp) (h : RunningAt i k (ms ++ m :: todo) s)
    (hms : (ms.all fun x => x.transaction.isSome) = true) (hb : s.busIn = List.replicate ms.length .ok ++ bus) :
    runFor ms.length s = .next (transacted i k ms bus s) ∧
    RunningAt i (k + ms.length) (m :: todo) (transacted i k ms bus s) := by
  induction ms generalizing k s with
  | nil =>
    rw [h.transacted_nil (bus := bus) hb]
    exact ⟨runFor_zero s, h⟩
  | cons x xs ih =>
    obtain ⟨hx, hxs⟩ := Bool.and_eq_true_iff.mp hms
    obtain ⟨m', todo', hrest⟩ : ∃ m' todo', xs ++ m :: todo = m' :: todo' := List.exists_cons_of_ne_nil (by simp)
    rw [List.cons_append, hrest] at h
    obtain ⟨hrun, hnext⟩ := h.runFor_transaction hx hb
    rw [← hrest] at hnext
    obtain ⟨hrun', hnext'⟩ := ih hnext hxs rfl
    rw [transacted_cons] at hrun' hnext'
    rw [List.length_cons, Nat.add_comm, runFor_add hrun, ← Nat.add_assoc]
    exact ⟨hrun', hnext'⟩

/-- A row of transactions to the end of the program. -/
theorem RunningAt.runFor_toEnd (ms : List MicroOp) (h : RunningAt i k ms s) (hne : ms ≠ [])
    (hms : (ms.all fun x => x.transaction.isSome) = true) (hb : s.busIn = List.replicate ms.length .ok ++ bus) :
    runFor ms.length s = .next (finish (transacted i k ms bus s)) := by
  induction ms generalizing k s with
  | nil => exact absurd rfl hne
  | cons x xs ih =>
    obtain ⟨hx, hxs⟩ := Bool.and_eq_true_iff.mp hms
    cases xs with
    | nil =>
      rw [transacted_singleton]
      exact h.runFor_last (h.transaction hx hb)
    | cons y ys =>
      obtain ⟨hrun, hnext⟩ := h.runFor_transaction hx hb
      have hrun' := ih hnext (List.cons_ne_nil _ _) hxs rfl
      rw [transacted_cons] at hrun'
      rw [List.length_cons, Nat.add_comm, runFor_add hrun]
      exact hrun'

end transactions

/-! ### Pulses and delays in a row (R146, R147) -/

/-- The state after the pulses and delays `ms` in a row from position `k` on: the reset output is at the level of the last
pulse. -/
def drove (k : Nat) (ms : List MicroOp) (s : State) : State :=
  { s with
    trace := s.trace ++ ms.map MicroOp.okEvent, ustep := BitVec.ofNat 8 (k + ms.length),
    resetOut := ms.foldl (fun out m => m.pulse.getD out) s.resetOut }

theorem drove_cons (k : Nat) (x : MicroOp) (xs : List MicroOp) (s : State) :
    drove (k + 1) xs (drove k [x] s) = drove k (x :: xs) s := by
  have hustep : k + 1 + xs.length = k + (x :: xs).length := by
    rw [List.length_cons]
    omega
  simp only [drove, List.map_cons, List.map_nil, List.append_assoc, List.singleton_append, List.foldl_cons,
    List.foldl_nil, hustep]

section drives
variable {i : Instr} {k : Nat} {m : MicroOp} {todo : List MicroOp} {s : State}

theorem RunningAt.runFor_pulseOrDelay {x : MicroOp} (h : RunningAt i k (x :: m :: todo) s)
    (hx : (x.transaction.isNone && x != .wait) = true) :
    runFor 1 s = .next (drove k [x] s) ∧ RunningAt i (k + 1) (m :: todo) (drove k [x] s) := by
  cases x with
  | rst v => exact h.runFor_plain rfl h.rst
  | delay t => exact h.runFor_plain rfl h.delay
  | wait | cmd | data => cases hx

theorem RunningAt.drove_nil (h : RunningAt i k todo s) : drove k [] s = s := by
  unfold drove
  rw [List.map_nil, List.append_nil, List.length_nil, Nat.add_zero, ← h.position]
  rfl

theorem RunningAt.runFor_pulsesAndDelays (ms : List MicroOp) (h : RunningAt i k (ms ++ m :: todo) s)
    (hms : (ms.all fun x => x.transaction.isNone && x != .wait) = true) :
    runFor ms.length s = .next (drove k ms s) ∧ RunningAt i (k + ms.length) (m :: todo) (drove k ms s) := by
  induction ms generalizing k s with
  | nil =>
    rw [h.drove_nil]
    exact ⟨runFor_zero s, h⟩
  | cons x xs ih =>
    obtain ⟨hx, hxs⟩ := Bool.and_eq_true_iff.mp hms
    obtain ⟨m', todo', hrest⟩ : ∃ m' todo', xs ++ m :: todo = m' :: todo' := List.exists_cons_of_ne_nil (by simp)
    rw [List.cons_append, hrest] at h
    obtain ⟨hrun, hnext⟩ := h.runFor_pulseOrDelay hx
    rw [← hrest] at hnext
    obtain ⟨hrun', hnext'⟩ := ih hnext hxs
    rw [drove_cons] at hrun' hnext'
    rw [List.length_cons, Nat.add_comm, runFor_add hrun, ← Nat.add_assoc]
    exact ⟨hrun', hnext'⟩

end drives

/-! ### Accept and the checks -/

/-- The state in which the micro-program of operation `i` starts, offered as `d`. -/
def started (i : Instr) (d : Descriptor) (q : List HostAction) (s : State) : State :=
  startOp (acceptOf i (accept d { s with hostQueue := q }))

/-- A completed operation, `POLLS` being 0 (R31). -/
theorem finish_of_polls {s : State} (h : s.polls = 0) :
    finish s = { s with err := none, active := false, issued := none } := by
  rw [finish, ← h]

/-- Accept, then the checks passed: two steps (R94, R160). -/
theorem runFor_start {i : Instr} {d : Descriptor} {q : List HostAction} {s : State} (hidle : Idle s)
    (ho : Offers d q s) (hd : decode d = .op i) (hi : isDriver i = true) (hp : phaseValidFor i s.phase = true)
    (hg : geometryOf i s.cfg = true) (h0 : s.polls = 0) :
    runFor 2 s = .next (started i d q s) ∧ RunningAt i 0 (microProgram i (started i d q s)) (started i d q s) := by
  constructor
  · have hcheck : step (accept d { s with hostQueue := q }) = .next (started i d q s) :=
      (step_accept_of_op hidle.2 q hd).trans (exec_of_checked rfl hi hp hg)
    rw [runFor_succ (step_of_offers hidle ho), runFor_succ hcheck, runFor_zero]
  · have hframe := acceptOf_frame i (accept d { s with hostQueue := q })
    have hlatched := decode_operandDescriptor_accept hd { s with hostQueue := q }
    unfold started
    rw [hframe]
    exact ⟨rfl, rfl, hidle.2, hi, hlatched, h0, rfl, rfl⟩

end Sys2Proof.Machine

namespace Sys2Proof
open Machine

/-! ### The obligations -/

/-- Settles O45: two transactions to the end. -/
theorem setBorderSendsTheColour : Obligations.SetBorderSendsTheColour := by
  unfold Obligations.SetBorderSendsTheColour
  intro s d q bus w hidle ho hd hp hb h0
  obtain ⟨hrun, hat⟩ := runFor_start hidle ho hd rfl (sessionReady_iff.mpr hp) rfl h0
  rw [runFor_add hrun 2]
  refine (hat.runFor_toEnd _ (List.cons_ne_nil _ _) rfl hb).trans (congrArg _ ((finish_of_polls ?_).trans ?_))
  · exact h0
  · cases w <;> rfl

/-- Settles O41: eight transactions to the end. -/
theorem setAddressWindowRunsToItsEnd : Obligations.SetAddressWindowRunsToItsEnd := by
  unfold Obligations.SetAddressWindowRunsToItsEnd
  intro s d q bus xs xe ys ye hidle ho hd hp hxs hxe hb h0
  have hg : windowValid xs xe ys ye = true := (windowValid_iff ..).mpr (by omega)
  obtain ⟨hrun, hat⟩ := runFor_start hidle ho hd rfl (sessionReady_iff.mpr hp) hg h0
  rw [runFor_add hrun 8]
  refine (hat.runFor_toEnd _ (List.cons_ne_nil _ _) rfl hb).trans (congrArg _ ((finish_of_polls ?_).trans ?_))
  · exact h0
  · rfl

/-- Settles O43: ten transactions to the end. -/
theorem transferStreamsTheFramebuffer : Obligations.TransferStreamsTheFramebuffer := by
  unfold Obligations.TransferStreamsTheFramebuffer
  intro s d q bus hidle ho hd hp hne hb h0
  obtain ⟨hrun, hat⟩ := runFor_start hidle ho hd rfl (sessionReady_iff.mpr hp) ((framebufferNonempty_iff _).mpr hne) h0
  rw [runFor_add hrun 10]
  refine (hat.runFor_toEnd _ (List.cons_ne_nil _ _) rfl hb).trans (congrArg _ ((finish_of_polls ?_).trans ?_))
  · exact h0
  · rw [List.append_assoc]
    rfl

/-- Settles O42: five transactions, then the WAIT. -/
theorem enableModeRunsToModeEnabled : Obligations.EnableModeRunsToModeEnabled := by
  unfold Obligations.EnableModeRunsToModeEnabled
  intro s d q bus busy m k hidle ho hd hp h0 hn hb hbusy
  obtain ⟨hrun, hat⟩ := runFor_start hidle ho hd rfl (sessionReady_iff.mpr hp) rfl h0
  obtain ⟨hrun', hwait⟩ :=
    hat.runFor_transactions (m := .wait) (todo := []) ((enableModeProgram s.cfg m).take 5) rfl hb
  rw [show 8 + k = 2 + (5 + (k + 1)) by omega, runFor_add hrun]
  refine (runFor_add hrun' _).trans ?_
  refine (hwait.runFor_last (hwait.wait hbusy hn)).trans (congrArg _ ((finish_of_polls ?_).trans ?_))
  · exact h0
  · cases m <;> rfl

end Sys2Proof
end

section
/-! PROOFS of the runs with a WAIT or a refresh, and of SHOW (spec/42_driver_ops.md R161, R166, R168, R171). -/

namespace Sys2Proof.Machine

theorem setPhase_self {s : State} {p : Phase} (h : s.phase = p) : setPhase p s = s := by
  subst h
  rfl

/-- The 13 transactions of CLEAR_DISPLAY (R168 steps 1 to 4). -/
theorem transacted_clearDisplay (bus : List BusResult) (s : State) :
    transacted .clearDisplay 0 ((clearDisplayProgram s.cfg s.mode).take 13) bus s =
    progressed bus (s.trace ++ (windowEvents s.cfg 0 (s.cfg.panelW - 1) 0 (s.cfg.panelH - 1) ++
      [.cmd s.cfg.cmd.writeRam .ok, .data (List.replicate (s.cfg.panelH * (s.cfg.panelW / 8)) 0xFF#8) .ok,
       .cmd s.cfg.cmd.updateCtrl .ok, .data [updRefreshOf s.cfg s.mode] .ok, .cmd s.cfg.cmd.masterActivation .ok])) 13
      (setPhase .refreshing (setWindow 0 (s.cfg.panelW - 1) 0 (s.cfg.panelH - 1) s)) := rfl

/-- The reset pulse of INITIALIZE (R161 steps 1 to 5). -/
theorem drove_init (s : State) :
    drove 0 ((initProgram s.cfg).take 5) s = { s with
      trace := s.trace ++
        [.rst true, .delay s.cfg.pay.tSettle, .delay s.cfg.pay.tSettle, .rst false, .delay s.cfg.pay.tSettle],
      ustep := 5, resetOut := false } := rfl

/-- The last 16 transactions of INITIALIZE. -/
theorem transacted_init (bus : List BusResult) {s : State} {c : Config} (hc : s.cfg = c) :
    transacted .init 8 ((initProgram c).drop 8) bus s =
    progressed bus (s.trace ++ ([.cmd s.cfg.cmd.outputScan .ok, .data s.cfg.pay.outputScanData .ok,
        .cmd s.cfg.cmd.dataEntryMode .ok, .data [s.cfg.pay.dataEntryModeValue] .ok] ++
        windowEvents s.cfg 0 (s.cfg.panelW - 1) 0 (s.cfg.panelH - 1) ++
        [.cmd s.cfg.cmd.border .ok, .data (borderData s.cfg s.cfg.pay.initBorderWhite) .ok,
          .cmd s.cfg.cmd.tempSource .ok, .data [s.cfg.pay.tempSourceValue] .ok])) 24
      { setBorderReg s.cfg.pay.initBorderWhite (setWindow 0 (s.cfg.panelW - 1) 0 (s.cfg.panelH - 1) s) with
        phase := .initialized, modeValid := false } := by
  subst hc
  rfl

/-- Nothing is attached to the software reset of INITIALIZE. -/
theorem transacted_init_swReset (x : MicroOp) (bus : List BusResult) (s : State) :
    transacted .init 6 [x] bus s = { s with busIn := bus, trace := s.trace ++ [x.okEvent], ustep := 7 } := rfl

/-- The events of INITIALIZE, grouped as its runs append them. -/
theorem appended_eq (tr pulse busy1 busy2 rest window last : List Event) (e reset e' : Event) :
    tr ++ pulse ++ busy1 ++ [e, reset] ++ busy2 ++ (e' :: rest) ++ window ++ last =
    tr ++ pulse ++ busy1 ++ [e] ++ [reset] ++ busy2 ++ [e'] ++ (rest ++ window ++ last) := by
  simp only [List.append_assoc, List.cons_append, List.nil_append]

theorem borderData_eq (c : Config) (w : Bool) :
    borderData c w = [if w then c.pay.borderDataWhite else c.pay.borderDataBlack] := by
  cases w <;> rfl

/-- The state of INITIALIZE after its reset pulse, a WAIT, the software reset and a WAIT (R161 steps 1 to 8). -/
def initReset (k1 k2 : Nat) (bus : List BusResult) (busy : List Bool) (s : State) : State :=
  { s with
    busIn := bus, busyIn := busy, ustep := 8, resetOut := false,
    trace := s.trace ++
      [.rst true, .delay s.cfg.pay.tSettle, .delay s.cfg.pay.tSettle, .rst false, .delay s.cfg.pay.tSettle] ++
      busyEvents s.cfg k1 ++ [.busy false] ++ [.cmd s.cfg.cmd.swReset .ok] ++ busyEvents s.cfg k2 ++ [.busy false] }

theorem runFor_initReset {s : State} {bus : List BusResult} {busy busy' : List Bool} {k1 k2 : Nat}
    (h : RunningAt .init 0 (initProgram s.cfg) s) (hn1 : WaitOutlasts s.cfg k1) (hn2 : WaitOutlasts s.cfg k2)
    (hb : s.busIn = .ok :: bus) (hbusy : s.busyIn = List.replicate k1 true ++ false :: busy')
    (hbusy' : busy' = List.replicate k2 true ++ false :: busy) :
    runFor (5 + ((k1 + 1) + (1 + (k2 + 1)))) s = .next (initReset k1 k2 bus busy s) ∧
    RunningAt .init 8 ((initProgram s.cfg).drop 8) (initReset k1 k2 bus busy s) := by
  obtain ⟨hrun1, hat1⟩ := h.runFor_pulsesAndDelays (m := .wait) (todo := (initProgram s.cfg).drop 6)
    ((initProgram s.cfg).take 5) rfl
  rw [drove_init] at hrun1 hat1
  change RunningAt .init 5 _ _ at hat1
  obtain ⟨hrun2, hat2⟩ := hat1.runFor_plain rfl (hat1.wait hbusy hn1)
  obtain ⟨hrun3, hat3⟩ := hat2.runFor_transaction (k := 6) rfl hb
  rw [transacted_init_swReset] at hrun3 hat3
  obtain ⟨hrun4, hat4⟩ := hat3.runFor_plain rfl (hat3.wait hbusy' hn2)
  refine ⟨(runFor_add hrun1 _).trans ?_, hat4⟩
  rw [runFor_add hrun2, runFor_add hrun3, hrun4]
  rfl

end Sys2Proof.Machine

namespace Sys2Proof
open Machine

/-- Settles O44: three transactions, then the WAIT. -/
theorem refreshRunsInTheEnabledMode : Obligations.RefreshRunsInTheEnabledMode := by
  unfold Obligations.RefreshRunsInTheEnabledMode
  intro s d q bus busy k hidle ho hd hp h0 hn hb hbusy
  obtain ⟨hrun, hat⟩ := runFor_start hidle ho hd rfl (hasMode_iff.mpr hp) rfl h0
  obtain ⟨hrun', hwait⟩ :=
    hat.runFor_transactions (m := .wait) (todo := []) (bus := bus) ((refreshProgram s.cfg s.mode).take 3) rfl hb
  rw [show 6 + k = 2 + (3 + (k + 1)) by omega, runFor_add hrun]
  refine (runFor_add hrun' _).trans ?_
  refine (hwait.runFor_last (hwait.wait hbusy hn)).trans (congrArg _ ((finish_of_polls ?_).trans ?_))
  · exact h0
  · refine Eq.trans ?_ (setPhase_self (p := .modeEnabled) ?_)
    · rfl
    · exact hp

/-- Settles O46: thirteen transactions, then the WAIT. -/
theorem clearDisplayErasesThePanel : Obligations.ClearDisplayErasesThePanel := by
  unfold Obligations.ClearDisplayErasesThePanel
  intro s d q bus busy k hidle ho hd hp h0 hn hb hbusy
  obtain ⟨hrun, hat⟩ := runFor_start hidle ho hd rfl (hasMode_iff.mpr hp) rfl h0
  obtain ⟨hrun', hwait⟩ := hat.runFor_transactions (m := .wait) (todo := []) (bus := bus)
    ((clearDisplayProgram (started .clearDisplay d q s).cfg (started .clearDisplay d q s).mode).take 13) rfl hb
  rw [transacted_clearDisplay] at hrun' hwait
  rw [show 16 + k = 2 + (13 + (k + 1)) by omega, runFor_add hrun]
  refine (runFor_add hrun' _).trans ?_
  refine (hwait.runFor_last (hwait.wait hbusy hn)).trans (congrArg _ ((finish_of_polls ?_).trans ?_))
  · exact h0
  · rw [List.append_assoc s.trace]
    refine Eq.trans ?_ (setPhase_self (p := .modeEnabled) ?_)
    · rfl
    · exact hp

/-- Settles O40: the resets with their two WAITs, then sixteen transactions to the end. -/
theorem initializeRunsToInitialized : Obligations.InitializeRunsToInitialized := by
  unfold Obligations.InitializeRunsToInitialized
  intro s d q bus busy k1 k2 hidle ho hd hp h0 hn1 hn2 hb hbusy
  obtain ⟨hrun, hat⟩ := runFor_start hidle ho hd rfl (fresh_iff.mpr hp) rfl h0
  obtain ⟨hrun', hat'⟩ := runFor_initReset hat hn1 hn2 hb hbusy rfl
  have hend := hat'.runFor_toEnd (bus := bus) _ (List.cons_ne_nil _ _) rfl rfl
  rw [transacted_init bus (show (initReset _ _ _ _ (started .init d q s)).cfg = (started .init d q s).cfg from rfl)] at hend
  rw [show 26 + k1 + k2 = 2 + (5 + ((k1 + 1) + (1 + (k2 + 1))) + 16) by omega, runFor_add hrun, runFor_add hrun']
  refine hend.trans (congrArg _ ((finish_of_polls ?_).trans ?_))
  · exact h0
  · rw [← borderData_eq, appended_eq]
    rfl

end Sys2Proof
end

section
/-! PROOFS of the last step of each driver operation, and of SHOW (spec/42_driver_ops.md R161 to R168, R171). -/

namespace Sys2Proof.Machine

/-! ### The step that completes an operation -/

section last
variable {i : Instr} {m : MicroOp} {s : State} {k : Nat}

/-- A last micro-operation that succeeds completes the operation. -/
theorem exec_of_lastAdvance {u : State} (hi : isDriver i = true) (h : s.issued = none)
    (hm : (microProgram i s).drop k = [m]) (hk : s.ustep = BitVec.ofNat 8 k) (hs : microStep m s = .advance u)
    (hu : u.ustep = s.ustep) :
    exec i s = .next (finish (afterOf i k { u with ustep := BitVec.ofNat 8 (k + 1) })) := by
  have hlen := congrArg List.length hm
  have hle := microProgram_length_le i s
  simp only [List.length_drop, List.length_singleton] at hlen
  have htoNat : s.ustep.toNat = k := by
    rw [hk, BitVec.toNat_ofNat, Nat.mod_eq_of_lt (by omega)]
  have hnext : (microProgram i s)[s.ustep.toNat]? = some m := by
    have hdrop := congrArg (·[0]?) hm
    simpa [List.getElem?_drop, htoNat] using hdrop
  have hustep : u.ustep + 1 = BitVec.ofNat 8 (k + 1) := by
    rw [hu, BitVec.ofNat_add, ← hk]
    rfl
  rw [exec_inFlight hi h, runMicro_complete hnext hs (by omega), hustep, htoNat]

theorem exec_of_lastTransaction (hi : isDriver i = true) (h : s.issued = none) (hm : (microProgram i s).drop k = [m])
    (ht : m.transaction.isSome = true) (hk : s.ustep = BitVec.ofNat 8 k) (hok : nextBus s = .ok) :
    exec i s = .next (finish (afterOf i k { afterBus s with
      trace := s.trace ++ [m.okEvent], ustep := BitVec.ofNat 8 (k + 1) })) := by
  have hs : microStep m s = .advance { afterBus s with trace := (afterBus s).trace ++ [m.okEvent] } := by
    cases m with
    | cmd b => exact busStep_ok hok _
    | data bs => exact busStep_ok hok _
    | wait | rst | delay => cases ht
  rw [exec_of_lastAdvance hi h hm hk hs (afterBus_ustep s), afterBus_trace]

theorem exec_of_lastWait (hi : isDriver i = true) (h : s.issued = none) (hm : (microProgram i s).drop k = [.wait])
    (hk : s.ustep = BitVec.ofNat 8 k) (hclear : nextBusy s = false) :
    exec i s = .next (finish (afterOf i k { afterBusy s with
      trace := s.trace ++ [.busy false], polls := pollsCleared s, ustep := BitVec.ofNat 8 (k + 1) })) :=
  exec_of_lastAdvance hi h hm hk (waitStep_clear hclear) (afterBusy_ustep s)

/-- A completed operation, nothing being left to check. -/
theorem finish_of_checked (h : s.issued = none) :
    finish s = { s with err := none, polls := 0, active := false } :=
  congrArg (fun o => { s with err := none, polls := 0, active := false, issued := o }) h.symm

end last

end Sys2Proof.Machine

namespace Sys2Proof
open Machine

/-- Settles O39: the last micro-operation of each program, and what is attached to it. -/
theorem lastMicroStepCompletesTheOperation : Obligations.LastMicroStepCompletesTheOperation := by
  unfold Obligations.LastMicroStepCompletesTheOperation
  intro s h
  have hbus : (afterBus s).issued = none := (afterBus_issued s).trans h
  have hbusy : (afterBusy s).issued = none := (afterBusy_issued s).trans h
  refine ⟨?init, ?setAddressWindow, ?enableMode, ?transfer, ?refresh, ?setBorder, ?clearDisplay⟩
  case init =>
    intro hk hok
    rw [exec_of_lastTransaction (k := 23) rfl h rfl rfl hk hok, finish_of_checked (by exact hbus)]
    rfl
  case setAddressWindow =>
    intro xs xe ys ye hk hok
    rw [exec_of_lastTransaction (k := 7) rfl h rfl rfl hk hok, finish_of_checked (by exact hbus)]
    rfl
  case enableMode =>
    intro m hk hclear
    rw [exec_of_lastWait (k := 5) rfl h rfl hk hclear, finish_of_checked (by exact hbusy)]
    rfl
  case transfer =>
    intro hk hok
    rw [exec_of_lastTransaction (k := 9) rfl h rfl rfl hk hok, finish_of_checked (by exact hbus)]
    rfl
  case refresh =>
    intro hk hclear
    rw [exec_of_lastWait (k := 3) rfl h rfl hk hclear, finish_of_checked (by exact hbusy)]
    rfl
  case setBorder =>
    intro w hk hok
    rw [exec_of_lastTransaction (k := 1) rfl h rfl rfl hk hok, finish_of_checked (by exact hbus), ← borderData_eq]
    rfl
  case clearDisplay =>
    intro hk hclear
    rw [exec_of_lastWait (k := 13) rfl h rfl hk hclear, finish_of_checked (by exact hbusy)]
    rfl

end Sys2Proof
end

section
/-! PROOF of SHOW (spec/42_driver_ops.md R171): a TRANSFER run, then a REFRESH run. -/

namespace Sys2Proof.Machine

/-- A run from a state whose first step is another's. -/
theorem runFor_of_step_eq {s s' t : State} {n : Nat} (hn : n ≠ 0) (h : step s = step s') (hrun : runFor n s' = .next t) :
    runFor n s = .next t := by
  obtain ⟨n, rfl⟩ := Nat.exists_eq_succ_of_ne_zero hn
  obtain ⟨u, hstep, hrest⟩ := runFor_succ_next hrun
  exact (runFor_succ (h.trans hstep) n).trans hrest

/-- The commands of a window sub-sequence, and the one that selects a refresh. -/
def steeringCommands (c : CommandBytes) : List Byte :=
  [c.setXWindow, c.setYWindow, c.setXPointer, c.setYPointer, c.updateCtrl]

/-- None of them writes the controller's memory or starts the panel (R9: the command bytes are distinct). -/
theorem steeringCommands_ne (c : CommandBytes) : ∀ b ∈ steeringCommands c, b ≠ c.writeRam ∧ b ≠ c.masterActivation := by
  have hdistinct := c.distinct
  simp only [List.nodup_cons, List.mem_cons, not_or] at hdistinct
  simp only [steeringCommands, List.forall_mem_cons]
  grind

/-- The events of SHOW before and after its image are steering commands and data. -/
theorem showEvents_steer (c : Config) (xs xe ys ye : Nat) (selection : List Byte) :
    ∀ e ∈ windowEvents c xs xe ys ye ++ [.cmd c.cmd.updateCtrl .ok, .data selection .ok],
      (∃ b ∈ steeringCommands c.cmd, e = .cmd b .ok) ∨ ∃ bs, e = .data bs .ok := by
  simp [windowEvents, steeringCommands]

theorem busyEvents_mem {c : Config} {k : Nat} {e : Event} (he : e ∈ busyEvents c k) :
    e = .busy true ∨ e = .delay c.pay.tPoll := by
  obtain ⟨l, hl, hmem⟩ := List.mem_flatten.mp he
  rw [List.eq_of_mem_replicate hl] at hmem
  simpa using hmem

end Sys2Proof.Machine

namespace Sys2Proof
open Machine

/-- Settles O47: TRANSFER runs to its end, the host then offers REFRESH since `ERR` is 0, and it runs to its end. -/
theorem showIssuesOneWriteAndOneActivation : Obligations.ShowIssuesOneWriteAndOneActivation := by
  unfold Obligations.ShowIssuesOneWriteAndOneActivation
  intro s q bus busy k hidle hq hp hne h0 hn hb hbusy
  have htransfer := transferStreamsTheFramebuffer s (encode .transfer) (.issueIfOk (encode .refresh) :: q)
    (List.replicate 3 .ok ++ bus) hidle hq (decode_encode rfl) (.inr hp) hne hb h0
  rw [show 18 + k = 12 + (6 + k) by omega, runFor_add htransfer]
  refine ⟨_, _, fbImage s, _, busyEvents s.cfg k,
    runFor_of_step_eq (by omega) ((showStopsAfterAnError _ (encode .refresh) q ⟨rfl, ?reset⟩ rfl).2 rfl)
      (refreshRunsInTheEnabledMode _ (encode .refresh) q bus busy k ⟨rfl, ?reset⟩ rfl (decode_encode rfl)
        ?phase ?polls ?outlasts rfl ?busy),
    rfl, rfl, hp, rfl, rfl, ?trace, ?size, rfl, rfl, ?steer, rfl, fun _ he => busyEvents_mem he⟩
  case reset => exact hidle.2
  case phase => exact hp
  case polls => exact h0
  case outlasts => exact hn
  case busy => exact hbusy
  case trace => simp [fbImage, accept]
  case size => simp [fbImage, Config.fbSize, Config.fbStride]
  case steer =>
    intro e he
    rcases showEvents_steer _ _ _ _ _ _ e he with ⟨b, hb, rfl⟩ | ⟨bs, rfl⟩
    · obtain ⟨hw, ha⟩ := steeringCommands_ne _ b hb
      simp [hw, ha]
    · simp

end Sys2Proof
end
